-- ==== Sys2Proof/Word.lean ====
section
/-! DEFINITION. The byte, the one word of this block, and the text type for opaque identifiers. -/

namespace Sys2Proof

/-- An 8-bit byte, bit 7 most significant, unsigned (00_scope R15). -/
abbrev Byte := BitVec 8

/-- The 4-bit opcode operand (00_scope R10, 10_state R22). -/
abbrev Nibble := BitVec 4

/-- A text string: the port identifier (10_state R32) and the bridge's command text (44_bridge R175). -/
abbrev Text := List Char

/-- An opaque diagnostic value of the environment, "underlying OS error"; no rule inspects it (00_scope R18). -/
abbrev Cause := Nat

end Sys2Proof
end

