-- ==== Sys2Proof/Config.lean ====
section
/-! DEFINITION. The constants of the document, the parameters of an implementation, the line's answer
types, and the free values: what the spec leaves open and no proof can see. -/

namespace Sys2Proof

/-- The line's answer to an open (41_transport R111). -/
inductive OpenAnswer where
  /-- the endpoint is open -/
  | ok
  /-- absent, busy or unsupported parameters, with the platform's cause -/
  | err (c : Cause)
  /-- no answer yet: the engine has no step of its own until the line answers (93 U7) -/
  | hold
  deriving DecidableEq, Repr, Inhabited

/-- The line's answer to a write (41_transport R113). -/
inductive WriteAnswer where
  /-- every byte is on the line -/
  | ok
  /-- the write failed after some prefix, of `took` bytes, had reached the line (R114) -/
  | err (c : Cause) (took : Nat)
  /-- no answer yet, such as a write held off by flow control (R123, 93 U7) -/
  | hold
  deriving DecidableEq, Repr, Inhabited

/-- The three outcomes of a read (00_scope R18, 41_transport R115). -/
inductive ReadOutcome where
  /-- the bytes received, first received first -/
  | data (bs : List Byte)
  /-- nothing arrived within the time-out in force -/
  | timedOut
  /-- an I/O failure distinct from a time-out -/
  | readError (c : Cause)
  deriving DecidableEq, Repr, Inhabited

/-- The parameters that the model takes as an argument (00_scope R6, R7, R11, R13; 30_encoding R79
CR12 and CR13). They stand in the state, which the host's fixed form of `step` makes the only argument
there is, and no step changes them (log 5). -/
structure Params where
  /-- MAX_ATTEMPTS (R6) -/
  maxAttempts : Nat
  /-- RETRY_DELAY_MS (R7) -/
  retryDelayMs : Nat
  /-- RX_CHUNK, the capacity of each read of the collector (41_transport R117) -/
  rxChunk : Nat
  /-- ACC_MAX, none when unbounded (R13, D11) -/
  accMax : Option Nat
  /-- PAYLOAD_MAX, none when unbounded (R13, D11) -/
  payloadMax : Option Nat
  /-- how far SUM_WIDTH exceeds the 16 bits it has at least (R11) -/
  sumExtra : Nat
  /-- HAS_VERIFY, whether the VERIFY_CHECKSUM unit is present (40_codec R98) -/
  hasVerify : Bool
  /-- ABORT_ON_NONACK, whether a non-ACK byte ends the retries; false in this hardware (42_handshake R143, log 17) -/
  abortOnNonack : Bool
  deriving DecidableEq, Repr

/-- SUM_WIDTH, at least 16 by construction (00_scope R11). -/
def Params.sumWidth (p : Params) : Nat := 16 + p.sumExtra

/-- What the rules presume of the parameters: MAX_ATTEMPTS and RX_CHUNK at least 1 (00_scope R6, R13). -/
abbrev Params.ok (p : Params) : Prop := 1 ≤ p.maxAttempts ∧ 1 ≤ p.rxChunk

namespace Config

/-- ACK_BYTE (00_scope R9). -/
def ackByte : Byte := 0x00#8

/-- ADDR_MASK (00_scope R10). -/
def addrMask : Byte := 0xF0#8

/-- SERIAL_READ_TIMEOUT_DEFAULT_MS (00_scope R8). -/
def serialReadTimeoutDefaultMs : Nat := 200

/-- BRIDGE_TIMEOUT_MS, used by the excluded bridge only (00_scope R8, 44_bridge R176). -/
def bridgeTimeoutMs : Nat := 1000

/-- The parameters of the machine after reset. MAX_ATTEMPTS and RETRY_DELAY_MS are the document's
(R6, R7), and ABORT_ON_NONACK is false (R13, 42_handshake R143). DESIGN CHOICE for the others, unsafe, log 5:
the spec gives them no value. -/
def params : Params :=
  { maxAttempts := 3, retryDelayMs := 200, rxChunk := 8, accMax := none, payloadMax := none,
    sumExtra := 0, hasVerify := true, abortOnNonack := false }

/-- FREE VALUE: the line's answer to an open that no queued answer decides (00_scope R19, log 2). -/
opaque lineOpen : Nat → OpenAnswer

/-- FREE VALUE: the line's answer to a write that no queued answer decides (00_scope R19, log 2). -/
opaque lineWrite : Nat → WriteAnswer

/-- FREE VALUE: the line's answer to a read that no queued answer decides (00_scope R19, log 2). -/
opaque lineRead : Nat → ReadOutcome

/-- FREE VALUE: the character or characters of the bridge's newline (44_bridge R177, 91 N17, log 13). -/
opaque newline : Text

end Config

end Sys2Proof
end

