-- ==== Sys2Proof/Syntax.lean ====
section
/-! DEFINITION. The operations of the block with their operands, the PortConfig record, and the register
images in which the host and the engine present an operation. -/

namespace Sys2Proof

/-- `data_bits` (10_state R32). -/
inductive DataBits where
  | five | six | seven | eight
  deriving DecidableEq, Repr

/-- `parity` (10_state R32). -/
inductive Parity where
  | none | odd | even
  deriving DecidableEq, Repr

/-- `stop_bits` (10_state R32). -/
inductive StopBits where
  | one | two
  deriving DecidableEq, Repr

/-- `flow` (10_state R32). -/
inductive FlowControl where
  | none | software | hardware
  deriving DecidableEq, Repr

/-- The PortConfig record (10_state R32). -/
structure PortConfig where
  id : Text
  baud : Nat
  dataBits : DataBits
  parity : Parity
  stopBits : StopBits
  flow : FlowControl
  /-- milliseconds -/
  readTimeout : Nat
  deriving DecidableEq, Repr

/-- The fifteen operations of the block with their operands (00_scope R14, 30_encoding R76, R77, R86). -/
inductive Instr where
  | reset (addr : Byte) (port : PortConfig)
  | command (addr : Byte) (opc : Nibble) (port : PortConfig)
  | rawsend (port : PortConfig) (payload : List Byte) (rto explen : Option Nat)
  | bridge (text : Text)
  | checksum (bytes : List Byte)
  | buildFrame (bytes : List Byte)
  | packCtrl (addr : Byte) (opc : Nibble)
  | isAck (bytes : List Byte)
  | decodeResponse (bytes : List Byte)
  | verifyChecksum (bytes : List Byte)
  | tOpen (cfg : PortConfig)
  | tWrite (bytes : List Byte)
  | tRead (cap timeout : Nat)
  | tClose
  | delay (ms : Nat)
  deriving DecidableEq, Repr

/-- The two formats that select an operation (30_encoding R70). -/
inductive Format where
  | hostop | uop
  deriving DecidableEq, Repr

/-- The registers and buffers in which the host presents an invocation: CR0 to CR7 of 30_encoding R79
and the buffers "reached through ports of their own". `readTimeout` is none where the caller supplies no
read time-out (41_transport R118). -/
structure HostRegs where
  op : BitVec 4
  addr : Byte := 0
  opc : Nibble := 0
  cfg : Byte := 0
  baud : BitVec 32 := 0
  readTimeout : Option (BitVec 32) := none
  explen : BitVec 32 := 0
  rto : BitVec 32 := 0
  portId : Text := []
  payload : List Byte := []
  bytes : List Byte := []
  text : Text := []
  deriving DecidableEq, Repr

/-- A PortConfig with every field zero or at code 0 and the default read time-out: the value of the
operand register PORT at reset (DESIGN CHOICE, unsafe, log 6) and of an unused argument. -/
def PortConfig.blank : PortConfig :=
  { id := [], baud := 0, dataBits := .five, parity := .none, stopBits := .one, flow := .none,
    readTimeout := Config.serialReadTimeoutDefaultMs }

/-- The engine's request: the 3-bit code UOP and its argument (30_encoding R77). -/
structure UopRegs where
  code : BitVec 3
  cfg : PortConfig := .blank
  bytes : List Byte := []
  cap : Nat := 0
  timeout : Nat := 0
  ms : Nat := 0
  deriving DecidableEq, Repr

/-- What a step fetches: an invocation of the host or a request of the engine. -/
inductive Request where
  | host (r : HostRegs)
  | uop (u : UopRegs)
  deriving DecidableEq, Repr

/-- Why a request is not an operation, by name. -/
inductive DecodeError where
  /-- OP codes A to F (30_encoding R83) -/
  | reservedOp (code : BitVec 4)
  /-- UOP codes 5 to 7 (30_encoding R77) -/
  | reservedUop (code : BitVec 3)
  /-- CFG.parity = 3 (30_encoding R83) -/
  | reservedParity
  /-- CFG.flow = 3 (30_encoding R83) -/
  | reservedFlow
  /-- a T_WRITE of no byte (41_transport R113: `n >= 1`) -/
  | emptyWrite
  /-- a T_READ of capacity 0 (41_transport R115: `cap >= 1`) -/
  | zeroCapacity
  deriving DecidableEq, Repr

/-- The format and the select code of each operation's row (30_encoding R88). -/
def Instr.select : Instr → Format × Nat
  | .reset _ _ => (.hostop, 0)
  | .command _ _ _ => (.hostop, 1)
  | .rawsend _ _ _ _ => (.hostop, 2)
  | .bridge _ => (.hostop, 3)
  | .checksum _ => (.hostop, 4)
  | .buildFrame _ => (.hostop, 5)
  | .packCtrl _ _ => (.hostop, 6)
  | .isAck _ => (.hostop, 7)
  | .decodeResponse _ => (.hostop, 8)
  | .verifyChecksum _ => (.hostop, 9)
  | .tOpen _ => (.uop, 0)
  | .tWrite _ => (.uop, 1)
  | .tRead _ _ => (.uop, 2)
  | .tClose => (.uop, 3)
  | .delay _ => (.uop, 4)

/-- The format and the select code of a request. -/
def Request.select : Request → Format × Nat
  | .host r => (.hostop, r.op.toNat)
  | .uop u => (.uop, u.code.toNat)

end Sys2Proof
end

