-- ==== Sys2Proof/WellFormed.lean ====
section
/-! DEFINITION. Which operand values an operation's registers can hold. -/

namespace Sys2Proof

/-- BAUD and READ_TIMEOUT_MS are 32-bit registers (30_encoding R78). -/
def PortConfig.wellFormed (p : PortConfig) : Bool :=
  decide (p.baud < 2 ^ 32) && decide (p.readTimeout < 2 ^ 32)

/-- EXPLEN and RTO hold a value of 31 bits beside their presence bit (30_encoding R79). -/
def optionWellFormed : Option Nat → Bool
  | none => true
  | some n => decide (n < 2 ^ 31)

/-- An operation whose operands its registers can hold; a T_WRITE has at least one byte
(41_transport R113) and a T_READ a capacity of at least 1 (R115). -/
def Instr.wellFormed : Instr → Bool
  | .reset _ port => port.wellFormed
  | .command _ _ port => port.wellFormed
  | .rawsend port _ rto explen => port.wellFormed && optionWellFormed rto && optionWellFormed explen
  | .bridge _ => true
  | .checksum _ => true
  | .buildFrame _ => true
  | .packCtrl _ _ => true
  | .isAck _ => true
  | .decodeResponse _ => true
  | .verifyChecksum _ => true
  | .tOpen _ => true
  | .tWrite bytes => !bytes.isEmpty
  | .tRead cap _ => decide (0 < cap)
  | .tClose => true
  | .delay _ => true

end Sys2Proof
end

