-- ==== Sys2Proof/Decode.lean ====
section
/-! DEFINITION. From the registers in which a request stands to the operation it asks for, total and
rejecting by name; then the encoder, from the same tables (30_encoding R76 to R79). -/

namespace Sys2Proof

/-! ## Fields -/

/-- `CFG[1:0]` (30_encoding R78). -/
def decodeDataBits (c : BitVec 2) : DataBits :=
  match c.toNat with
  | 0 => .five
  | 1 => .six
  | 2 => .seven
  | _ => .eight

/-- `CFG[3:2]`, code 3 reserved (30_encoding R78, R83). -/
def decodeParity (c : BitVec 2) : Except DecodeError Parity :=
  match c.toNat with
  | 0 => .ok .none
  | 1 => .ok .odd
  | 2 => .ok .even
  | _ => .error .reservedParity

/-- `CFG[4]` (30_encoding R78). -/
def decodeStopBits (b : Bool) : StopBits := if b then .two else .one

/-- `CFG[6:5]`, code 3 reserved (30_encoding R78, R83). -/
def decodeFlow (c : BitVec 2) : Except DecodeError FlowControl :=
  match c.toNat with
  | 0 => .ok .none
  | 1 => .ok .software
  | 2 => .ok .hardware
  | _ => .error .reservedFlow

/-- EXPLEN and RTO: bit 31 says present, bits 30:0 the value (30_encoding R79). -/
def decodeOptional (w : BitVec 32) : Option Nat :=
  if w.getLsbD 31 then some (w.extractLsb' 0 31).toNat else none

/-- PORT from CFG, BAUD, READ_TIMEOUT_MS and PORT.id. Where the caller supplies no read time-out it is
200 ms (41_transport R118). `CFG[7]` is written as 0 and is not looked at (DESIGN CHOICE, log 9). -/
def decodePort (r : HostRegs) : Except DecodeError PortConfig :=
  match decodeParity (r.cfg.extractLsb' 2 2) with
  | .error e => .error e
  | .ok parity =>
    match decodeFlow (r.cfg.extractLsb' 5 2) with
    | .error e => .error e
    | .ok flow =>
      .ok { id := r.portId
            baud := r.baud.toNat
            dataBits := decodeDataBits (r.cfg.extractLsb' 0 2)
            parity := parity
            stopBits := decodeStopBits (r.cfg.getLsbD 4)
            flow := flow
            readTimeout := match r.readTimeout with
              | some t => t.toNat
              | none => Config.serialReadTimeoutDefaultMs }

/-- An operation that takes the PORT operand: the reserved codes of CFG refuse it. -/
def withPort (r : HostRegs) (f : PortConfig → Instr) : Except DecodeError Instr :=
  match decodePort r with
  | .ok p => .ok (f p)
  | .error e => .error e

/-! ## Decoding -/

/-- Format HOSTOP: the operation an invocation runs, with the operands it latches (30_encoding R76). -/
def decodeHost (r : HostRegs) : Except DecodeError Instr :=
  match r.op.toNat with
  | 0 => withPort r (fun p => .reset r.addr p)
  | 1 => withPort r (fun p => .command r.addr r.opc p)
  | 2 => withPort r (fun p => .rawsend p r.payload (decodeOptional r.rto) (decodeOptional r.explen))
  | 3 => .ok (.bridge r.text)
  | 4 => .ok (.checksum r.bytes)
  | 5 => .ok (.buildFrame r.bytes)
  | 6 => .ok (.packCtrl r.addr r.opc)
  | 7 => .ok (.isAck r.bytes)
  | 8 => .ok (.decodeResponse r.bytes)
  | 9 => .ok (.verifyChecksum r.bytes)
  | _ => .error (.reservedOp r.op)

/-- Format UOP: the engine's request to the transport or to its own timer (30_encoding R77). -/
def decodeUop (u : UopRegs) : Except DecodeError Instr :=
  match u.code.toNat with
  | 0 => .ok (.tOpen u.cfg)
  | 1 => if u.bytes.isEmpty then .error .emptyWrite else .ok (.tWrite u.bytes)
  | 2 => if u.cap = 0 then .error .zeroCapacity else .ok (.tRead u.cap u.timeout)
  | 3 => .ok .tClose
  | 4 => .ok (.delay u.ms)
  | _ => .error (.reservedUop u.code)

/-- Decoding of a request in either format. -/
def decode : Request → Except DecodeError Instr
  | .host r => decodeHost r
  | .uop u => decodeUop u

/-! ## Encoding -/

/-- The code of `data_bits` (30_encoding R78). -/
def DataBits.code : DataBits → Nat
  | .five => 0
  | .six => 1
  | .seven => 2
  | .eight => 3

/-- The code of `parity` (30_encoding R78). -/
def Parity.code : Parity → Nat
  | .none => 0
  | .odd => 1
  | .even => 2

/-- The code of `stop_bits` (30_encoding R78). -/
def StopBits.code : StopBits → Nat
  | .one => 0
  | .two => 1

/-- The code of `flow` (30_encoding R78). -/
def FlowControl.code : FlowControl → Nat
  | .none => 0
  | .software => 1
  | .hardware => 2

/-- The byte CFG (30_encoding R78). -/
def encodeCfg (p : PortConfig) : Byte :=
  BitVec.ofNat 8 (p.dataBits.code + 4 * p.parity.code + 16 * p.stopBits.code + 32 * p.flow.code)

/-- A presence bit and a 31-bit value (30_encoding R79). -/
def encodeOptional : Option Nat → BitVec 32
  | none => 0
  | some n => BitVec.ofNat 32 (2 ^ 31 + n)

/-- The registers that carry PORT, with the operation select `op`. -/
def encodePort (op : BitVec 4) (p : PortConfig) : HostRegs :=
  { op := op, cfg := encodeCfg p, baud := BitVec.ofNat 32 p.baud,
    readTimeout := some (BitVec.ofNat 32 p.readTimeout), portId := p.id }

/-- The request that asks for an operation (30_encoding R76 to R79). -/
def encode : Instr → Request
  | .reset addr port => .host { encodePort 0 port with addr := addr }
  | .command addr opc port => .host { encodePort 1 port with addr := addr, opc := opc }
  | .rawsend port payload rto explen =>
    .host { encodePort 2 port with
              payload := payload, rto := encodeOptional rto, explen := encodeOptional explen }
  | .bridge text => .host { op := 3, text := text }
  | .checksum bytes => .host { op := 4, bytes := bytes }
  | .buildFrame bytes => .host { op := 5, bytes := bytes }
  | .packCtrl addr opc => .host { op := 6, addr := addr, opc := opc }
  | .isAck bytes => .host { op := 7, bytes := bytes }
  | .decodeResponse bytes => .host { op := 8, bytes := bytes }
  | .verifyChecksum bytes => .host { op := 9, bytes := bytes }
  | .tOpen cfg => .uop { code := 0, cfg := cfg }
  | .tWrite bytes => .uop { code := 1, bytes := bytes }
  | .tRead cap timeout => .uop { code := 2, cap := cap, timeout := timeout }
  | .tClose => .uop { code := 3 }
  | .delay ms => .uop { code := 4, ms := ms }

/-! ## The table's words -/

/-- The invocation that a HOSTOP word of the opcode table stands for: OP is the word's low four bits and
every operand register is 0, but CFG, which holds a configuration that the block can run (8 data bits,
30_encoding R78), because the host must supply a complete one (70_reset R223, log 8). -/
def hostTableWord (w : Nat) : HostRegs := { op := BitVec.ofNat 4 w, cfg := 0x03#8 }

/-- The engine request that a UOP word of the opcode table stands for, its argument the least one that
the request takes: one byte to write, a capacity of 1 (41_transport R113, R115, log 8). -/
def uopTableWord (w : Nat) : UopRegs :=
  { code := BitVec.ofNat 3 w, cfg := { PortConfig.blank with dataBits := .eight },
    bytes := [0x00#8], cap := 1 }

/-- The request that a word of the opcode table stands for. A HOSTOP row has four bits and a UOP row
three; HOSTOP and UOP codes overlap, and only the width tells them apart. A width of whole bytes is read
as HOSTOP, the only format the host can present (41_transport R110, log 8). -/
def tableRequest (nbits w : Nat) : Request :=
  if nbits ≤ 3 then .uop (uopTableWord w) else .host (hostTableWord w)

/-- What the decoder reads from a word of the opcode table. -/
def decodeTableWord (nbits w : Nat) : Option Instr :=
  match decode (tableRequest nbits w) with
  | .ok i => some i
  | .error _ => none

end Sys2Proof
end

