-- ==== Sys2Proof/Machine/State.lean ====
section
/-! DEFINITION. Everything the spec gives the machine, as plain data, and its value at reset
(10_state, all rules; 20_memory R50). -/

namespace Sys2Proof.Machine

/-- The states of the engine (10_state R24). -/
inductive Fsm where
  | idle | sending | awaitingAck | retry | draining | success | failure
  deriving DecidableEq, Repr

/-- The engine's mode (10_state R25). -/
inductive Mode where
  | reset | command | rawFrame
  deriving DecidableEq, Repr

/-- The operation that an invocation runs (10_state R20). -/
inductive Op where
  | reset | command | rawsend | bridge
  | checksum | buildFrame | packCtrl | isAck | decodeResponse | verifyChecksum
  deriving DecidableEq, Repr

/-- HANDLE: the transport's ownership of the serial endpoint (10_state R34). -/
inductive Handle where
  | closed
  | opened (cfg : PortConfig)
  deriving DecidableEq, Repr

/-- The hard errors (60_exceptions R190). The first three are the serial path's, with the port name as
context (42_handshake R144); the last three belong to the excluded bridge. -/
inductive ErrorValue where
  | portOpenError (port : Text) (c : Cause)
  | writeError (port : Text) (c : Cause)
  | readError (port : Text) (c : Cause)
  | bridgeConnectError
  | noResponse
  | bridgeError (c : Cause)
  deriving DecidableEq, Repr

/-- The document's HandshakeOutcome (10_state R36). -/
inductive HandshakeOutcome where
  | acknowledged
  | notAcknowledged (bs : List Byte)
  | timedOut
  | transportError (c : Cause)
  deriving DecidableEq, Repr

/-- The two status texts of COMMAND (10_state R37). -/
inductive StatusText where
  | ackReceived | noAckReceived
  deriving DecidableEq, Repr

/-- The texts themselves (42_handshake R144). -/
def StatusText.text : StatusText → String
  | .ackReceived => "ACK received"
  | .noAckReceived => "No ACK received"

/-- The Response record: raw bytes and their count (40_codec R97). -/
structure Response where
  raw : List Byte
  count : Nat
  deriving DecidableEq, Repr

/-- RESULT: what an invocation returns (10_state R37). `byte` and `frame` are the values of CHECKSUM,
PACK_CTRL and BUILD_FRAME invoked alone. -/
inductive Result where
  | bool (b : Bool)
  | status (s : StatusText)
  | bytes (r : Response)
  | error (e : ErrorValue)
  | byte (b : Byte)
  | frame (bs : List Byte)
  deriving DecidableEq, Repr

/-- The line's answer to an open or a write as the trace records it. -/
inductive IoResult where
  | ok
  | err (c : Cause)
  deriving DecidableEq, Repr

/-- An event of the trace (10_state R39). -/
inductive Event where
  | evOpen (cfg : PortConfig) (r : IoResult)
  | evWrite (bs : List Byte) (r : IoResult)
  | evRead (cap timeout : Nat) (r : ReadOutcome)
  | evDelay (ms : Nat)
  | evClose
  deriving DecidableEq, Repr

/-- What a transport primitive returned to the engine (00_scope R17, 30_encoding R77). -/
inductive UopReturn where
  /-- no answer: T_CLOSE, DELAY, or no primitive yet -/
  | nothing
  /-- the line has not answered, and the request stands (93 U7) -/
  | waiting
  | ok
  | portOpenError (port : Text) (c : Cause)
  | writeError (c : Cause)
  | read (r : ReadOutcome)
  deriving DecidableEq, Repr

/-- What the host does at its side of the block (log 16). -/
inductive HostEvent where
  /-- it presents an invocation and waits for DONE before it does anything else (20_memory R61) -/
  | invoke (r : HostRegs)
  /-- a caller presents an invocation without waiting for the one in progress (20_memory R65) -/
  | overlap (r : HostRegs)
  /-- it changes its operand registers without presenting an invocation (20_memory R64) -/
  | rewrite
  deriving DecidableEq, Repr

/-- Why the machine stops. Each is safe: the model stops where the spec gives no effect, and no state
that a run from reset reaches has one of them (log 19). -/
inductive Fault where
  /-- Raised by T_WRITE, T_READ and T_CLOSE when HANDLE is Closed: their `require` does not hold
  (41_transport R113, R115, R119). Safe. -/
  | handleNotOpen
  /-- Raised by T_OPEN when HANDLE is open already: its `require` does not hold (41_transport R111). Safe. -/
  | handleAlreadyOpen
  /-- Raised by the engine when the returned value belongs to no transition of the state `fsm` holds
  (42_handshake R134 to R142, 43_rawsend R161 to R166). Safe. -/
  | outOfSequence
  deriving DecidableEq, Repr

/-- What the model gives no meaning to, each by name (60_exceptions R212). All are safe. -/
inductive Refusal where
  /-- Raised by `exec` for an operation without a meaning. Safe. -/
  | notModelled (mnemonic : String)
  /-- Raised by a step whose request is no operation: reserved codes (30_encoding R83). Safe. -/
  | undecodable (e : DecodeError)
  /-- Raised by BRIDGE: the block refuses it (44_bridge R175). Safe. -/
  | bridgeExcluded
  /-- Raised by VERIFY_CHECKSUM when HAS_VERIFY is false (30_encoding R83). Safe. -/
  | verifyAbsent
  /-- Raised by RESET, COMMAND, RAWSEND and T_OPEN for `data_bits` of 5, 6 or 7 (41_transport R112). Safe. -/
  | narrowCharacters
  /-- Raised by RAWSEND for a payload beyond a finite PAYLOAD_MAX (92 D11). Safe. -/
  | payloadTooLong
  /-- Raised by the collector when ACC would exceed a finite ACC_MAX (92 D11, 93 U5). Safe. -/
  | accumulatorFull
  /-- Raised by a step when an invocation is presented on the port of the one in progress (20_memory R65). Safe. -/
  | overlappingInvocation
  /-- Raised by a step when the host changes operands during an invocation (20_memory R64). Safe. -/
  | operandsChanged
  deriving DecidableEq, Repr

/-- The state of the machine; INVENTORY.md's '## State' lists each field with its rule. -/
structure State where
  /-- CR12, CR13 and the parameters of R13; no step changes them -/
  params : Params
  /-- what the host has yet to do, first first (00_scope R19, 10_state R40) -/
  host : List HostEvent
  /-- OP (R20) -/
  op : Op
  /-- ADDR (R21) -/
  addr : Byte
  /-- OPC (R22) -/
  opc : Nibble
  /-- PAYLOAD (R23) -/
  payload : List Byte
  /-- RTO (R23) -/
  rto : Option Nat
  /-- EXPLEN (R23) -/
  explen : Option Nat
  /-- the byte sequence operand of a codec function (30_encoding R76) -/
  bytes : List Byte
  /-- PORT (R32) -/
  port : PortConfig
  /-- fsm (R24) -/
  fsm : Fsm
  /-- MODE (R25) -/
  mode : Mode
  /-- ATTEMPT (R26) -/
  attempt : Nat
  /-- CTRL (R27) -/
  ctrl : Byte
  /-- TXF (R28) -/
  txf : List Byte
  /-- SUM, below 2 ^ SUM_WIDTH (R29) -/
  sum : Nat
  /-- CHK (R29) -/
  chk : Byte
  /-- LASTRX (R30) -/
  lastrx : Option ReadOutcome
  /-- ACC (R31) -/
  acc : List Byte
  /-- HANDLE (R34) -/
  handle : Handle
  /-- OUTCOME (R36) -/
  outcome : Option HandshakeOutcome
  /-- the error behind ERRCODE (30_encoding R79, 60_exceptions R191) -/
  error : Option ErrorValue
  /-- RESULT (R37) -/
  result : Result
  /-- DONE (R37) -/
  done : Bool
  /-- the engine's outstanding request (30_encoding R77) -/
  uop : Option UopRegs
  /-- what the last primitive returned to the engine (00_scope R17) -/
  ret : UopReturn
  /-- TRACE (R39) -/
  trace : List Event
  /-- TX: every byte put on the line since power-on (20_memory R50) -/
  tx : List Byte
  /-- RX: every byte consumed since power-on (20_memory R50, R59) -/
  rx : List Byte
  /-- the line's answers to the next opens (00_scope R19) -/
  opens : List OpenAnswer
  /-- the line's answers to the next writes (00_scope R19) -/
  writes : List WriteAnswer
  /-- the line's answers to the next reads: the part of RX that is still to come (10_state R41) -/
  reads : List ReadOutcome
  /-- how many free values of the line have been drawn; the model's own field (log 2) -/
  tick : Nat
  deriving DecidableEq, Repr

/-- The machine right after power-on reset (10_state R43, second column; 70_reset R220, R222). The
values of the registers that R43 calls unspecified, and of the model's own fields, are DESIGN CHOICE,
unsafe (log 5, log 6, log 7). -/
def State.reset : State :=
  { params := Config.params
    host := []
    op := .reset
    addr := 0
    opc := 0
    payload := []
    rto := none
    explen := none
    bytes := []
    port := .blank
    fsm := .idle
    mode := .reset
    attempt := 0
    ctrl := 0
    txf := []
    sum := 0
    chk := 0
    lastrx := none
    acc := []
    handle := .closed
    outcome := none
    error := none
    result := .bool false
    done := false
    uop := none
    ret := .nothing
    trace := []
    tx := []
    rx := []
    opens := []
    writes := []
    reads := []
    tick := 0 }

end Sys2Proof.Machine
end

