-- ==== Sys2Proof/Machine/Frame.lean ====
section
/-! DEFINITION. The pure functions of the frame codec (40_codec R90 to R101; 30_encoding R71 to R75, R81, R82). -/

namespace Sys2Proof.Machine

/-- The sum of the bytes as natural numbers (40_codec R92). -/
def byteSum : List Byte → Nat
  | [] => 0
  | b :: bs => b.toNat + byteSum bs

/-- CHECKSUM as a function: the sum of the bytes mod 256 (40_codec R91, R92). -/
def checksum (bs : List Byte) : Byte := BitVec.ofNat 8 (byteSum bs)

/-- One addition of the accumulator, wrapping modulo 2 ^ w (40_codec R91, R92). -/
def accumulate (w : Nat) (acc : Nat) (b : Byte) : Nat := (acc + b.toNat) % 2 ^ w

/-- The final value of SUM: the accumulator of `w` bits, cleared to 0 and run over the bytes in order
(40_codec R91). -/
def runningSum (w : Nat) (bs : List Byte) : Nat := bs.foldl (accumulate w) 0

/-- BUILD_FRAME: the given bytes and then their checksum (40_codec R93, 30_encoding R72). -/
def buildFrame (bs : List Byte) : List Byte := bs ++ [checksum bs]

/-- PACK_CTRL: `(address & 0xF0) | opcode` (40_codec R94, 30_encoding R81). -/
def packCtrl (a : Byte) (o : Nibble) : Byte := (a &&& Config.addrMask) ||| o.setWidth 8

/-- IS_ACK: exactly one byte, equal to ACK_BYTE (40_codec R96). -/
def isAck : List Byte → Bool
  | [b] => b == Config.ackByte
  | _ => false

/-- DECODE_RESPONSE: the bytes and their count (40_codec R97). -/
def decodeResponse (bs : List Byte) : Response := { raw := bs, count := bs.length }

/-- VERIFY_CHECKSUM: the last byte is the checksum of the ones before it; false of the empty sequence
(40_codec R98). -/
def verifyChecksum (f : List Byte) : Bool :=
  match f.getLast? with
  | none => false
  | some l => checksum f.dropLast == l

end Sys2Proof.Machine
end

