-- ==== Sys2Proof/Machine/Operands.lean ====
section
/-! DEFINITION. What the engine hands to the transport: the unit to send, the capacity and time-out of a
read, and the requests in the form of 30_encoding R77. -/

namespace Sys2Proof.Machine

/-- What `Sending` writes: one control byte, or one full frame in raw-frame mode (10_state R25,
20_memory R57, 30_encoding R74). -/
def unitToSend (s : State) : List Byte :=
  match s.mode with
  | .reset => [s.ctrl]
  | .command => [s.ctrl]
  | .rawFrame => s.txf

/-- The time-out of a read in raw-frame mode: RTO if the caller supplied it, else the port's
(41_transport R118). -/
def rawTimeout (s : State) : Nat :=
  match s.rto with
  | some t => t
  | none => s.port.readTimeout

/-- The expected-length threshold is met (43_rawsend R164, R167). -/
def thresholdMet (s : State) : Bool :=
  match s.explen with
  | none => false
  | some n => decide (n ≤ s.acc.length)

/-- ACC holds more than a finite ACC_MAX (92 D11). -/
def accOverfull (s : State) : Bool :=
  match s.params.accMax with
  | none => false
  | some m => decide (m < s.acc.length)

/-- A payload holds more than a finite PAYLOAD_MAX (92 D11). -/
def payloadOverlong (s : State) (payload : List Byte) : Bool :=
  match s.params.payloadMax with
  | none => false
  | some m => decide (m < payload.length)

/-- The configurations that the model refuses: `data_bits` other than 8 (41_transport R112). -/
def portRefusal (p : PortConfig) : Option Refusal :=
  match p.dataBits with
  | .five => some .narrowCharacters
  | .six => some .narrowCharacters
  | .seven => some .narrowCharacters
  | .eight => none

/-- The request `Open(cfg)`. -/
def openRequest (cfg : PortConfig) : UopRegs := { code := 0, cfg := cfg }

/-- The request `MemWrite(TX, len bs, bs)`. -/
def writeRequest (bs : List Byte) : UopRegs := { code := 1, bytes := bs }

/-- The request `MemRead(RX, cap)` with the time-out in force. -/
def readRequest (cap timeout : Nat) : UopRegs := { code := 2, cap := cap, timeout := timeout }

/-- The request `Close()`. -/
def closeRequest : UopRegs := { code := 3 }

/-- The request `Delay(ms)`. -/
def delayRequest (ms : Nat) : UopRegs := { code := 4, ms := ms }

end Sys2Proof.Machine
end

