-- ==== Sys2Proof/Machine/Flags.lean ====
section
/-! DEFINITION. The three condition flags (10_state R38) and the packed registers that the host reads
(30_encoding R79, R80; 60_exceptions R191). None of them is state. -/

namespace Sys2Proof.Machine

/-- ACKED (10_state R38). -/
def acked (s : State) : Bool := decide (s.outcome = some .acknowledged)

/-- LAST_TIMEOUT (10_state R38). -/
def lastTimeout (s : State) : Bool := decide (s.lastrx = some .timedOut)

/-- LAST_NONACK (10_state R38). -/
def lastNonack (s : State) : Bool :=
  match s.lastrx with
  | some (.data bs) => decide (bs ≠ [Config.ackByte])
  | _ => false

/-- The code of `fsm` in STATUS (30_encoding R79). -/
def Fsm.code : Fsm → Nat
  | .idle => 0
  | .sending => 1
  | .awaitingAck => 2
  | .retry => 3
  | .draining => 4
  | .success => 5
  | .failure => 6

/-- The code of OP (30_encoding R76). -/
def Op.code : Op → Nat
  | .reset => 0
  | .command => 1
  | .rawsend => 2
  | .bridge => 3
  | .checksum => 4
  | .buildFrame => 5
  | .packCtrl => 6
  | .isAck => 7
  | .decodeResponse => 8
  | .verifyChecksum => 9

/-- CR8, STATUS (30_encoding R79). Beyond 255 attempts the field of ATTEMPT shows ATTEMPT mod 256: DESIGN
CHOICE, unsafe, log 25. -/
def statusWord (s : State) : BitVec 16 :=
  BitVec.ofNat 16 (s.fsm.code + 8 * s.done.toNat + 16 * (acked s).toNat
    + 32 * (lastTimeout s).toNat + 64 * (lastNonack s).toNat + 256 * s.attempt)

/-- CR9, OUTCOME: the tag of 30_encoding R80 and the byte of NotAcknowledged in bits 15:8. -/
def outcomeWord (s : State) : BitVec 16 :=
  match s.outcome with
  | none => 0x0000#16
  | some .acknowledged => 0x0001#16
  | some (.notAcknowledged bs) => BitVec.ofNat 16 (2 + 256 * (bs.headD 0).toNat)
  | some .timedOut => 0x0003#16
  | some (.transportError _) => 0x0004#16

/-- The numeric code of an error value (60_exceptions R191). -/
def ErrorValue.code : ErrorValue → BitVec 4
  | .portOpenError _ _ => 1
  | .writeError _ _ => 2
  | .readError _ _ => 3
  | .bridgeConnectError => 4
  | .noResponse => 5
  | .bridgeError _ => 6

/-- CR10, ERRCODE (60_exceptions R191). -/
def errorCode (s : State) : BitVec 4 :=
  match s.error with
  | none => 0
  | some e => e.code

/-- CR11, ACC_COUNT (30_encoding R79). For 2^32 bytes or more it shows the length mod 2^32: DESIGN CHOICE,
unsafe, log 24. -/
def accCount (s : State) : BitVec 32 := BitVec.ofNat 32 s.acc.length

/-- CR12, MAX_ATTEMPTS (30_encoding R79). A parameter above 255 is shown mod 256: DESIGN CHOICE, unsafe,
log 25. -/
def maxAttemptsRegister (s : State) : BitVec 8 := BitVec.ofNat 8 s.params.maxAttempts

/-- CR13, RETRY_DELAY_MS (30_encoding R79). A parameter of 2^32 or more is shown mod 2^32: DESIGN CHOICE,
unsafe, log 25. -/
def retryDelayRegister (s : State) : BitVec 32 := BitVec.ofNat 32 s.params.retryDelayMs

/-- RTIMER: the time-out that it counts towards, none while it is idle. It counts exactly while a T_READ
is outstanding (10_state R35, 60_exceptions R208); it is no state of its own (log 15). -/
def readTimer (s : State) : Option Nat :=
  match s.uop with
  | some u => if u.code = 2#3 then some u.timeout else none
  | none => none

/-- DTIMER: the delay that it counts towards, none while it is idle. It counts exactly while a DELAY is
outstanding (10_state R35, 60_exceptions R208); it is no state of its own (log 15). -/
def delayTimer (s : State) : Option Nat :=
  match s.uop with
  | some u => if u.code = 4#3 then some u.ms else none
  | none => none

end Sys2Proof.Machine
end

