-- ==== Sys2Proof/Machine/Ops.lean ====
section
/-! DEFINITION. The named operations over the state: the trace and the request register, the line's
answers, the checksum generator, the start of an invocation, the delivery of its result, and taking an
error. -/

namespace Sys2Proof.Machine

/-- Outcomes in sequence: what follows runs only on a next state. -/
def andThen (o : Host.Outcome State Fault Refusal)
    (f : State → Host.Outcome State Fault Refusal) : Host.Outcome State Fault Refusal :=
  match o with
  | .next s => f s
  | .fault r => .fault r
  | .refused r => .refused r

/-- The next state, if there is one. -/
def nextState? (o : Host.Outcome State Fault Refusal) : Option State :=
  match o with
  | .next s => some s
  | .fault _ => none
  | .refused _ => none

/-- `emit e` (00_scope R17). -/
def State.emit (s : State) (e : Event) : State := { s with trace := s.trace ++ [e] }

/-- The engine makes a request of the transport or of its timer (30_encoding R77). -/
def State.request (s : State) (u : UopRegs) : State := { s with uop := some u }

/-! ## The line's answers -/

/-- The next answer: the queue's first, or a free value once the queue is empty (log 2). -/
def nextAnswer {α : Type} (queue : List α) (free : Nat → α) (tick : Nat) : α :=
  match queue with
  | [] => free tick
  | a :: _ => a

/-- The counter of free values after an answer: one more if the queue was empty. -/
def tickAfter {α : Type} (queue : List α) (tick : Nat) : Nat :=
  match queue with
  | [] => tick + 1
  | _ :: _ => tick

/-- What the line answers to an open issued now (41_transport R111). -/
def openAnswer (s : State) : OpenAnswer := nextAnswer s.opens Config.lineOpen s.tick

/-- What the line answers to a write issued now (41_transport R113). -/
def writeAnswer (s : State) : WriteAnswer := nextAnswer s.writes Config.lineWrite s.tick

/-- What the line answers to a read issued now (41_transport R115). -/
def readAnswer (s : State) : ReadOutcome := nextAnswer s.reads Config.lineRead s.tick

/-- The line has answered an open. -/
def State.openAnswered (s : State) : State :=
  { s with opens := s.opens.tail, tick := tickAfter s.opens s.tick }

/-- The line has answered a write. -/
def State.writeAnswered (s : State) : State :=
  { s with writes := s.writes.tail, tick := tickAfter s.writes s.tick }

/-- The line has answered a read, and `left` of the answer is still to be read. -/
def State.readAnswered (s : State) (left : List ReadOutcome) : State :=
  { s with reads := left ++ s.reads.tail, tick := tickAfter s.reads s.tick }

/-- What a read of capacity `cap` gives the engine of an answer: data of no byte is a time-out
(41_transport R116), and no read returns more bytes than its capacity (R115). -/
def clipRead (cap : Nat) : ReadOutcome → ReadOutcome
  | .data bs => if (bs.take cap).isEmpty then .timedOut else .data (bs.take cap)
  | .timedOut => .timedOut
  | .readError c => .readError c

/-- What stays on the receive path of an answer that holds more bytes than the read's capacity
(41_transport R117; DESIGN CHOICE, safe, log 3). -/
def leftOnLine (cap : Nat) : ReadOutcome → List ReadOutcome
  | .data bs => if (bs.drop cap).isEmpty then [] else [.data (bs.drop cap)]
  | .timedOut => []
  | .readError _ => []

/-- The bytes that a read returned, which leave RX (20_memory R59). -/
def bytesOf : ReadOutcome → List Byte
  | .data bs => bs
  | .timedOut => []
  | .readError _ => []

/-! ## The checksum generator -/

/-- CHECKSUM in the generator: SUM is cleared and accumulates the bytes, CHK is `SUM[7:0]`
(10_state R29, 40_codec R91). -/
def State.runChecksum (s : State) (bs : List Byte) : State :=
  { s with sum := runningSum s.params.sumWidth bs
           chk := BitVec.ofNat 8 (runningSum s.params.sumWidth bs) }

/-! ## Start and end of an invocation -/

/-- The start of a RESET, COMMAND or RAWSEND invocation: every engine register takes its value of
10_state R43, third column, whatever the previous invocation left (R42, 60_exceptions R205). The registers
that R43 calls unspecified go back to their reset values (DESIGN CHOICE, log 6). -/
def State.beginInvocation (s : State) (op : Op) (mode : Mode) : State :=
  { s with
    op := op, fsm := .idle, mode := mode, attempt := 0, ctrl := 0, txf := [], sum := 0, chk := 0,
    lastrx := none, acc := [], outcome := none, error := none, result := .bool false, done := false,
    uop := none, ret := .nothing, trace := [] }

/-- RESULT at the end of a serial operation (42_handshake R144, 43_rawsend R165, R166). -/
def finalResult (s : State) : Result :=
  match s.error with
  | some e => .error e
  | none =>
    match s.mode with
    | .reset => .bool (acked s)
    | .command => .status (if acked s then .ackReceived else .noAckReceived)
    | .rawFrame => .bytes (decodeResponse s.acc)

/-- The result is delivered: RESULT is written, DONE is set, and no request is outstanding
(10_state R37). -/
def State.deliver (s : State) : State := { s with result := finalResult s, done := true, uop := none }

/-- Release on every exit path: T_CLOSE if the port is open, and the result only after it
(41_transport R122). -/
def State.release (s : State) : State :=
  match s.handle with
  | .opened _ => s.request closeRequest
  | .closed => s.deliver

/-- A codec function invoked alone ends: OP, RESULT and DONE are written and no error is left; the FSM,
the port, the flags and the trace are untouched (40_codec R90; log 10). -/
def State.finishCodec (s : State) (op : Op) (r : Result) : State :=
  { s with op := op, result := r, done := true, error := none }

/-! ## Taking an error -/

/-- OUTCOME when a hard error occurs: in a handshake a write or read failure is wrapped as
TransportError; an open failure leaves OUTCOME empty (60_exceptions R192, 42_handshake R135). In raw-frame
mode OUTCOME is unused (10_state R36). -/
def errorOutcome (s : State) (e : ErrorValue) : Option HandshakeOutcome :=
  match s.mode with
  | .rawFrame => s.outcome
  | .reset | .command =>
    match e with
    | .writeError _ c => some (.transportError c)
    | .readError _ c => some (.transportError c)
    | .portOpenError _ _ | .bridgeConnectError | .noResponse | .bridgeError _ => s.outcome

/-- Entry of a hard error, `raise E(info)` (60_exceptions R202, 41_transport R122): nothing further is
issued, `fsm` is Failure, OUTCOME is written in a handshake, the port is released if it is open, and then
RESULT and DONE follow. There is no handler inside the block and no return from it (R202, R205): the next
invocation begins anew with `State.beginInvocation`. -/
def State.takeError (s : State) (e : ErrorValue) : State :=
  { s with fsm := .failure, outcome := errorOutcome s e, error := some e }.release

end Sys2Proof.Machine
end

