-- ==== Sys2Proof/Machine/Bridge.lean ====
section
/-! DEFINITION. BRIDGE, which the block refuses (44_bridge R175), and beside it the contract of the excluded
daemon bridge as pure functions (R176 to R183): surrounding software, called by no step. -/

namespace Sys2Proof.Machine

/-- BRIDGE: refused by the hardware; it touches no state (44_bridge R175, 30_encoding R83). -/
def execBridge (_text : Text) (_s : State) : Host.Outcome State Fault Refusal := .refused .bridgeExcluded

/-- How the bridge's reading ends (44_bridge R179, R181). -/
inductive BridgeStop where
  /-- the peer closes the stream -/
  | endOfStream
  /-- a read attempt times out with no further bytes available -/
  | timedOut
  /-- another I/O error -/
  | ioError (c : Cause)
  deriving DecidableEq, Repr

/-- What the daemon's side does during one call: whether the connection and the write succeed, the lines it
sends in order, and how the reading ends. Bytes after the last newline are a line of `lines` like any other,
so the reply does not show whether the last line was ended: DESIGN CHOICE, unsafe, log 13. -/
structure BridgePeer where
  connected : Bool
  writeFailure : Option Cause
  lines : List Text
  stop : BridgeStop
  deriving DecidableEq, Repr

/-- A call's result: the reply's lines in receipt order, or an error (44_bridge R176, R178). -/
inductive BridgeResult where
  | reply (lines : List Text)
  | error (e : ErrorValue)
  deriving DecidableEq, Repr

/-- White space removed at both ends of the command text (44_bridge R177). Which characters are white space
is PRESUMED to be Lean's own predicate (log 13). -/
def bridgeTrim (t : Text) : Text :=
  ((t.dropWhile Char.isWhitespace).reverse.dropWhile Char.isWhitespace).reverse

/-- What the bridge writes: the trimmed text and one newline (44_bridge R177). -/
def bridgeOutbound (t : Text) : Text := bridgeTrim t ++ Config.newline

/-- The reply's lines: the non-empty ones, in receipt order (44_bridge R178). -/
def bridgeLines (lines : List Text) : List Text := lines.filter (fun l => !l.isEmpty)

/-- The reply as text: the lines joined with one newline between consecutive ones (44_bridge R178). -/
def bridgeJoin : List Text → Text
  | [] => []
  | [l] => l
  | l :: m :: ls => l ++ Config.newline ++ bridgeJoin (m :: ls)

/-- The outcome of the reading (44_bridge R179 to R181): nothing received is NoResponse, or BridgeError at
an I/O error; anything received, an unterminated last line or an empty line too, makes the rest a reply,
partial or not (DESIGN CHOICE for these two, unsafe, log 13). -/
def bridgeCollect (lines : List Text) (stop : BridgeStop) : BridgeResult :=
  match lines with
  | _ :: _ => .reply (bridgeLines lines)
  | [] =>
    match stop with
    | .endOfStream => .error .noResponse
    | .timedOut => .error .noResponse
    | .ioError c => .error (.bridgeError c)

/-- One call of the bridge (44_bridge R176): a failure to connect is BridgeConnectError, a failure to write
is an I/O error before any data was received (R181). -/
def bridgeSend (peer : BridgePeer) : BridgeResult :=
  if peer.connected then
    match peer.writeFailure with
    | some c => .error (.bridgeError c)
    | none => bridgeCollect peer.lines peer.stop
  else .error .bridgeConnectError

end Sys2Proof.Machine
end

