-- ==== Sys2Proof/Machine/Codec.lean ====
section
/-! DEFINITION. The codec functions invoked alone by the host (40_codec R90 to R98). Each latches its
operand, leaves the FSM, the port, the streams, the flags and the trace alone, and ends within its step. -/

namespace Sys2Proof.Machine

/-- CHECKSUM (40_codec R91). -/
def execChecksum (bytes : List Byte) (s : State) : Host.Outcome State Fault Refusal :=
  let t := { s with bytes := bytes }.runChecksum bytes
  .next (t.finishCodec .checksum (.byte t.chk))

/-- BUILD_FRAME (40_codec R93). -/
def execBuildFrame (bytes : List Byte) (s : State) : Host.Outcome State Fault Refusal :=
  let t := { s with bytes := bytes }.runChecksum bytes
  .next (t.finishCodec .buildFrame (.frame (bytes ++ [t.chk])))

/-- PACK_CTRL (40_codec R94). -/
def execPackCtrl (addr : Byte) (opc : Nibble) (s : State) : Host.Outcome State Fault Refusal :=
  .next ({ s with addr := addr, opc := opc }.finishCodec .packCtrl (.byte (packCtrl addr opc)))

/-- IS_ACK (40_codec R96). -/
def execIsAck (bytes : List Byte) (s : State) : Host.Outcome State Fault Refusal :=
  .next ({ s with bytes := bytes }.finishCodec .isAck (.bool (isAck bytes)))

/-- DECODE_RESPONSE (40_codec R97). -/
def execDecodeResponse (bytes : List Byte) (s : State) : Host.Outcome State Fault Refusal :=
  .next ({ s with bytes := bytes }.finishCodec .decodeResponse (.bytes (decodeResponse bytes)))

/-- VERIFY_CHECKSUM, present only when HAS_VERIFY (40_codec R98, 30_encoding R83). On the empty sequence
no checksum is computed. -/
def execVerifyChecksum (bytes : List Byte) (s : State) : Host.Outcome State Fault Refusal :=
  match s.params.hasVerify with
  | false => .refused .verifyAbsent
  | true =>
    match bytes.getLast? with
    | none => .next ({ s with bytes := bytes }.finishCodec .verifyChecksum (.bool false))
    | some l =>
      let t := { s with bytes := bytes }.runChecksum bytes.dropLast
      .next (t.finishCodec .verifyChecksum (.bool (t.chk == l)))

end Sys2Proof.Machine
end

