-- ==== Sys2Proof/Machine/Handshake.lean ====
section
/-! DEFINITION. RESET and COMMAND, and the transitions of the handshake they share (42_handshake R130 to
R146). An invocation is started by the host's operation; each of its transport requests is a step of its
own, and a transition follows the request's answer. -/

namespace Sys2Proof.Machine

/-- The start of a handshake (42_handshake R131, R132, R134): the start values, MODE, CTRL, and the request
to open the port. -/
def startHandshake (op : Op) (mode : Mode) (ctrl : Byte) (s : State) : State :=
  { s.beginInvocation op mode with ctrl := ctrl }.request (openRequest s.port)

/-- RESET: the handshake with opcode 0 (42_handshake R131). The refusal of R112 comes before any register
is written (60_exceptions R212). -/
def execReset (addr : Byte) (port : PortConfig) (s : State) : Host.Outcome State Fault Refusal :=
  match portRefusal port with
  | some r => .refused r
  | none => .next (startHandshake .reset .reset (packCtrl addr 0) { s with addr := addr, port := port })

/-- COMMAND: the handshake with opcode OPC (42_handshake R132, R133). -/
def execCommand (addr : Byte) (opc : Nibble) (port : PortConfig) (s : State) :
    Host.Outcome State Fault Refusal :=
  match portRefusal port with
  | some r => .refused r
  | none =>
    .next (startHandshake .command .command (packCtrl addr opc)
      { s with addr := addr, opc := opc, port := port })

/-- Entry to `Sending`: the unit of the mode is written (42_handshake R136, 43_rawsend R162). -/
def enterSending (s : State) : State :=
  { s with fsm := .sending }.request (writeRequest (unitToSend s))

/-- Entry to `AwaitingAck`: one read of one byte with the port's time-out (42_handshake R137,
41_transport R117, R118). -/
def enterAwaitingAck (s : State) : State :=
  { s with fsm := .awaitingAck }.request (readRequest 1 s.port.readTimeout)

/-- Entry to `Retry`: the fixed delay (42_handshake R140). -/
def enterRetry (s : State) : State :=
  { s with fsm := .retry }.request (delayRequest s.params.retryDelayMs)

/-- Acknowledged: `AwaitingAck -> Success` (42_handshake R137). -/
def acknowledge (s : State) : State :=
  { s with fsm := .success, outcome := some .acknowledged }.release

/-- The outcome when the budget is exhausted: decided by the last read alone (42_handshake R141). -/
def exhaustedOutcome : ReadOutcome → HandshakeOutcome
  | .data bs => .notAcknowledged bs
  | .timedOut => .timedOut
  | .readError c => .transportError c

/-- The budget is exhausted: `AwaitingAck -> Failure` (42_handshake R141). -/
def exhaust (r : ReadOutcome) (s : State) : State :=
  { s with fsm := .failure, outcome := some (exhaustedOutcome r) }.release

/-- An attempt may be followed by another: the budget is not spent, and the parameter ABORT_ON_NONACK does not
end the retries at a non-ACK byte (42_handshake R140, R143; what it does when true is DEDUCED, log 17). -/
def mayRetry (s : State) : Bool :=
  decide (s.attempt < s.params.maxAttempts) && !(s.params.abortOnNonack && lastNonack s)

/-- An unacknowledged attempt (42_handshake R139 to R141). -/
def unacknowledged (r : ReadOutcome) (s : State) : State :=
  if mayRetry s then enterRetry s else exhaust r s

/-- The transition out of `AwaitingAck`, by what the read gave (42_handshake R137 to R141). A read failure
is examined before the byte (60_exceptions R201). -/
def afterAckRead (r : ReadOutcome) (s : State) : State :=
  match r with
  | .readError c => s.takeError (.readError s.port.id c)
  | .timedOut => unacknowledged .timedOut s
  | .data bs => if isAck bs then acknowledge s else unacknowledged (.data bs) s

/-- `Retry -> Sending`: the counter is incremented after the delay (42_handshake R140). -/
def afterDelay (s : State) : State := enterSending { s with attempt := s.attempt + 1 }

end Sys2Proof.Machine
end

