-- ==== Sys2Proof/Machine/RawSend.lean ====
section
/-! DEFINITION. RAWSEND and the transitions of the drain-until-idle collector (43_rawsend R160 to R171). -/

namespace Sys2Proof.Machine

/-- RAWSEND (43_rawsend R160, R161): the start values, MODE, TXF built from the payload, ACC empty, and the
request to open the port. -/
def execRawsend (port : PortConfig) (payload : List Byte) (rto explen : Option Nat) (s : State) :
    Host.Outcome State Fault Refusal :=
  match portRefusal port with
  | some r => .refused r
  | none =>
    if payloadOverlong s payload then .refused .payloadTooLong
    else
      let t := ({ s with port := port, payload := payload, rto := rto, explen := explen }.beginInvocation
        .rawsend .rawFrame).runChecksum payload
      .next ({ t with txf := payload ++ [t.chk] }.request (openRequest port))

/-- The collector ends without a transport error: `Draining -> Success` (43_rawsend R166). -/
def finishDrain (s : State) : State := { s with fsm := .success }.release

/-- One turn of the collector: the threshold is tested before each read, the first included
(43_rawsend R164, R167). -/
def drain (s : State) : State :=
  if thresholdMet s then finishDrain s
  else s.request (readRequest s.params.rxChunk (rawTimeout s))

/-- `Sending -> Draining` (43_rawsend R162). -/
def enterDraining (s : State) : State := drain { s with fsm := .draining }

/-- The transition after a read of the collector (43_rawsend R164, R165). No received byte is compared with
the ACK (R168). A run that would exceed a finite ACC_MAX is refused (92 D11). -/
def afterDrainRead (r : ReadOutcome) (s : State) : Host.Outcome State Fault Refusal :=
  match r with
  | .readError c => .next (s.takeError (.readError s.port.id c))
  | .timedOut => .next (finishDrain s)
  | .data bs =>
    let t := { s with acc := s.acc ++ bs }
    if accOverfull t then .refused .accumulatorFull else .next (drain t)

end Sys2Proof.Machine
end

