-- ==== Sys2Proof/Machine/Transport.lean ====
section
/-! DEFINITION. The serial transport's primitives and the engine's timed wait (41_transport R110 to R127).
Each leaves what it returned to the engine in `ret`; the FSM is the engine's (Machine/Engine.lean). -/

namespace Sys2Proof.Machine

/-- What an open does, by the line's answer (41_transport R111). While the line has not answered, the
request stands. -/
def openPort (cfg : PortConfig) (s : State) : State :=
  let t := s.openAnswered
  match openAnswer s with
  | .ok => { t.emit (.evOpen cfg .ok) with handle := .opened cfg, ret := .ok }
  | .err c => { t.emit (.evOpen cfg (.err c)) with ret := .portOpenError cfg.id c }
  | .hold => { t.request (openRequest cfg) with ret := .waiting }

/-- What a write does, by the line's answer: all the bytes, or an error and some prefix of them
(41_transport R113, R114). While the line has not answered, the request stands. -/
def writeBytes (bs : List Byte) (s : State) : State :=
  let t := s.writeAnswered
  match writeAnswer s with
  | .ok => { t.emit (.evWrite bs .ok) with tx := t.tx ++ bs, ret := .ok }
  | .err c took => { t.emit (.evWrite bs (.err c)) with tx := t.tx ++ bs.take took, ret := .writeError c }
  | .hold => { t.request (writeRequest bs) with ret := .waiting }

/-- What a read does: one bounded attempt, recorded in the trace and in LASTRX; the bytes returned leave
RX (41_transport R115, R116; 20_memory R59). -/
def readBytes (cap timeout : Nat) (s : State) : State :=
  let r := clipRead cap (readAnswer s)
  let t := s.readAnswered (leftOnLine cap (readAnswer s))
  { t.emit (.evRead cap timeout r) with lastrx := some r, rx := t.rx ++ bytesOf r, ret := .read r }

/-- T_OPEN (41_transport R111, R112). -/
def execTOpen (cfg : PortConfig) (s : State) : Host.Outcome State Fault Refusal :=
  match s.handle with
  | .opened _ => .fault .handleAlreadyOpen
  | .closed =>
    match portRefusal cfg with
    | some r => .refused r
    | none => .next (openPort cfg s)

/-- T_WRITE (41_transport R113). -/
def execTWrite (bytes : List Byte) (s : State) : Host.Outcome State Fault Refusal :=
  match s.handle with
  | .closed => .fault .handleNotOpen
  | .opened _ => .next (writeBytes bytes s)

/-- T_READ (41_transport R115). -/
def execTRead (cap timeout : Nat) (s : State) : Host.Outcome State Fault Refusal :=
  match s.handle with
  | .closed => .fault .handleNotOpen
  | .opened _ => .next (readBytes cap timeout s)

/-- T_CLOSE: a failure of the platform's close is ignored (41_transport R119). -/
def execTClose (s : State) : Host.Outcome State Fault Refusal :=
  match s.handle with
  | .closed => .fault .handleNotOpen
  | .opened _ => .next { s.emit .evClose with handle := .closed, ret := .nothing }

/-- DELAY: the wait is an event of the trace and nothing else (41_transport R127, 70_reset R236). -/
def execDelay (ms : Nat) (s : State) : Host.Outcome State Fault Refusal :=
  .next { s.emit (.evDelay ms) with ret := .nothing }

end Sys2Proof.Machine
end

