-- ==== Sys2Proof/Machine/Dispatch.lean ====
section
/-! DEFINITION. The one dispatch from an operation to its meaning. -/

namespace Sys2Proof.Machine

def exec (i : Instr) (s : State) : Host.Outcome State Fault Refusal :=
  match i with
  | .reset addr port => Sys2Proof.Machine.execReset addr port s
  | .command addr opc port => Sys2Proof.Machine.execCommand addr opc port s
  | .rawsend port payload rto explen => Sys2Proof.Machine.execRawsend port payload rto explen s
  | .bridge text => Sys2Proof.Machine.execBridge text s
  | .checksum bytes => Sys2Proof.Machine.execChecksum bytes s
  | .buildFrame bytes => Sys2Proof.Machine.execBuildFrame bytes s
  | .packCtrl addr opc => Sys2Proof.Machine.execPackCtrl addr opc s
  | .isAck bytes => Sys2Proof.Machine.execIsAck bytes s
  | .decodeResponse bytes => Sys2Proof.Machine.execDecodeResponse bytes s
  | .verifyChecksum bytes => Sys2Proof.Machine.execVerifyChecksum bytes s
  | .tOpen cfg => Sys2Proof.Machine.execTOpen cfg s
  | .tWrite bytes => Sys2Proof.Machine.execTWrite bytes s
  | .tRead cap timeout => Sys2Proof.Machine.execTRead cap timeout s
  | .tClose => Sys2Proof.Machine.execTClose s
  | .delay ms => Sys2Proof.Machine.execDelay ms s

end Sys2Proof.Machine
end

