-- ==== Sys2Proof/Machine/Engine.lean ====
section
/-! DEFINITION. The engine's control: from the state `fsm` holds and from what the last primitive returned to
the next state and the next request (42_handshake R134 to R142, 43_rawsend R161 to R166). -/

namespace Sys2Proof.Machine

/-- `Idle -> Sending` or `Idle -> Failure`, by the answer to the open (42_handshake R134, R135;
43_rawsend R161). ATTEMPT stays 0 in raw-frame mode (10_state R26). -/
def afterOpen (s : State) : Host.Outcome State Fault Refusal :=
  match s.ret with
  | .ok =>
    match s.mode with
    | .reset | .command => .next (enterSending { s with attempt := 1 })
    | .rawFrame => .next (enterSending s)
  | .portOpenError p c => .next (s.takeError (.portOpenError p c))
  | _ => .fault .outOfSequence

/-- The transition out of `Sending`, by the answer to the write (42_handshake R136, 43_rawsend R162). -/
def afterWrite (s : State) : Host.Outcome State Fault Refusal :=
  match s.ret with
  | .ok =>
    match s.mode with
    | .reset | .command => .next (enterAwaitingAck s)
    | .rawFrame => .next (enterDraining s)
  | .writeError c => .next (s.takeError (.writeError s.port.id c))
  | _ => .fault .outOfSequence

/-- The engine's transition after a primitive has run. While the line has not answered, the engine waits
with its request outstanding (93 U7). In a terminal state the port has been closed and the result is
delivered (42_handshake R142). -/
def advance (s : State) : Host.Outcome State Fault Refusal :=
  if s.ret = .waiting then .next s
  else
    match s.fsm with
    | .idle => afterOpen s
    | .sending => afterWrite s
    | .awaitingAck =>
      match s.ret with
      | .read r => .next (afterAckRead r s)
      | _ => .fault .outOfSequence
    | .retry =>
      match s.ret with
      | .nothing => .next (afterDelay s)
      | _ => .fault .outOfSequence
    | .draining =>
      match s.ret with
      | .read r => afterDrainRead r s
      | _ => .fault .outOfSequence
    | .success | .failure =>
      match s.ret with
      | .nothing => .next s.deliver
      | _ => .fault .outOfSequence

end Sys2Proof.Machine
end

