-- ==== Sys2Proof/Machine/Fetch.lean ====
section
/-! DEFINITION. What a step runs: the engine's outstanding request if there is one, else the host's next
invocation (00_scope R19, 20_memory R61; log 1, log 8). -/

namespace Sys2Proof.Machine

/-- What is fetched. -/
inductive Fetched where
  /-- an invocation of the host, and the state it starts in -/
  | invocation (i : Instr) (s : State)
  /-- a request of the engine, and the state it runs in -/
  | primitive (i : Instr) (s : State)
  /-- nothing to run: the block waits for the host (70_reset R222) -/
  | waits (s : State)
  /-- a refusal -/
  | refuses (r : Refusal)
  deriving DecidableEq, Repr

/-- The operations that reach the serial line: OP codes 0, 1 and 2 (20_memory R51). -/
def reachesLine (r : HostRegs) : Bool := decide (r.op.toNat ≤ 2)

/-- An invocation presented during one in progress on `port` is on that port too (20_memory R65,
70_reset R226). -/
def samePort (port : Text) (r : HostRegs) : Bool := reachesLine r && decide (r.portId = port)

/-- The first thing that the host's callers do, during an invocation on `port`, that they may not. A caller that
does not wait has acted already, so what stands behind its invocation is looked at too; a caller that waits,
and everything behind it, comes after the invocation in progress (log 16). -/
def intrusionOn (port : Text) : List HostEvent → Option Refusal
  | [] => none
  | .invoke _ :: _ => none
  | .rewrite :: _ => some .operandsChanged
  | .overlap r :: rest => if samePort port r then some .overlappingInvocation else intrusionOn port rest

/-- What the host may not do while an invocation is in progress: present another one on the same port, or
change operands (20_memory R64, R65; 60_exceptions R212; 70_reset R226; log 16). -/
def intrusion (s : State) : Option Refusal := intrusionOn s.port.id s.host

/-- The host's invocation `r` is taken, and `rest` is what the host does after it. -/
def fetchInvocation (r : HostRegs) (rest : List HostEvent) (s : State) : Fetched :=
  match decodeHost r with
  | .ok i => .invocation i { s with host := rest }
  | .error e => .refuses (.undecodable e)

/-- The engine's request `u` is taken from the request register. -/
def fetchPrimitive (u : UopRegs) (s : State) : Fetched :=
  match decodeUop u with
  | .ok i => .primitive i { s with uop := none }
  | .error e => .refuses (.undecodable e)

/-- The fetch of one step. -/
def fetch (s : State) : Fetched :=
  match s.uop with
  | some u =>
    match intrusion s with
    | some r => .refuses r
    | none => fetchPrimitive u s
  | none =>
    match s.host with
    | [] => .waits s
    | .rewrite :: rest => .waits { s with host := rest }
    | .invoke r :: rest => fetchInvocation r rest s
    | .overlap r :: rest => fetchInvocation r rest s

/-- The state in which the engine makes the request of a UOP word: the FSM state and the handle that the
request belongs to (log 8). -/
def placePrimitive (u : UopRegs) (s : State) : State :=
  let t := { s with uop := some u, host := [] }
  match u.code.toNat with
  | 0 => { t with fsm := .idle, handle := .closed }
  | 1 => { t with fsm := .sending, handle := .opened u.cfg }
  | 2 => { t with fsm := .awaitingAck, handle := .opened u.cfg }
  | 3 => { t with fsm := .success, handle := .opened u.cfg }
  | 4 => { t with fsm := .retry }
  | _ => t

/-- A request placed where the next step fetches it. -/
def placeRequest (r : Request) (s : State) : State :=
  match r with
  | .host regs => { s with uop := none, host := .invoke regs :: s.host }
  | .uop u => placePrimitive u s

end Sys2Proof.Machine
end

