-- ==== Sys2Proof/Machine/Step.lean ====
section
/-! DEFINITION. One step of the machine, and the placing of an instruction where it is fetched. -/

namespace Sys2Proof.Machine

/-- One step: the host's invocation is started, or the engine's request is run and the engine's transition
follows it, or the block waits for the host. -/
def step (s : State) : Host.Outcome State Fault Refusal :=
  match fetch s with
  | .invocation i t => exec i t
  | .primitive i t => andThen (exec i t) advance
  | .waits t => .next t
  | .refuses r => .refused r

/-- `s` with the instruction of a table word where `step` fetches its next one (log 8). -/
def State.withFetchWord (s : State) (nbits w : Nat) : State := placeRequest (tableRequest nbits w) s

end Sys2Proof.Machine
end

