-- ==== Sys2Proof/Safety.lean ====
section
/-! DEFINITION. What counts as a safe run, in the terms that claims use: runs, the invariant of the engine, the
frames, and the shapes of a trace. -/

namespace Sys2Proof.Machine

/-- `k` steps, ended by the first fault or refusal. -/
def run : Nat → State → Host.Outcome State Fault Refusal
  | 0, s => .next s
  | k + 1, s => andThen (step s) (run k)

/-! ## The engine's invariant -/

/-- No invocation is in progress: no request is outstanding and the port is closed (10_state R34). -/
abbrev AtRest (s : State) : Prop := s.uop = none ∧ s.handle = .closed

/-- The port is open with the invocation's own configuration (10_state R33, R34). -/
abbrev PortHeld (s : State) : Prop := s.handle = .opened s.port

/-- A handshake attempt is under way (10_state R26). -/
abbrev Attempting (s : State) : Prop := s.mode ≠ .rawFrame ∧ 1 ≤ s.attempt

/-- A raw frame is being sent or answered: no attempt is counted and TXF is the payload's frame
(10_state R26, R28). -/
abbrev SendingFrame (s : State) : Prop :=
  s.mode = .rawFrame ∧ s.attempt = 0 ∧ s.txf = buildFrame s.payload

/-- The registers of the checksum generator: SUM has SUM_WIDTH bits and CHK is its low byte (10_state R29). -/
abbrev GeneratorOk (s : State) : Prop :=
  s.sum < 2 ^ s.params.sumWidth ∧ s.chk = BitVec.ofNat 8 s.sum

/-- In `Idle` the block waits, or the port is about to be opened (42_handshake R134, 43_rawsend R161). -/
abbrev IdleOk (s : State) : Prop :=
  AtRest s ∨ (s.uop = some (openRequest s.port) ∧ s.handle = .closed ∧ s.port.dataBits = .eight ∧
    s.attempt = 0 ∧ s.acc = [] ∧ s.outcome = none ∧ s.error = none ∧
    (s.mode = .rawFrame → s.txf = buildFrame s.payload))

/-- In `Sending` the unit of the mode is being written (42_handshake R136, 43_rawsend R162). -/
abbrev SendingOk (s : State) : Prop :=
  s.uop = some (writeRequest (unitToSend s)) ∧ PortHeld s ∧ (Attempting s ∨ SendingFrame s) ∧
    s.outcome = none ∧ s.error = none

/-- In `AwaitingAck` one byte is being read (42_handshake R137). -/
abbrev AwaitingOk (s : State) : Prop :=
  s.uop = some (readRequest 1 s.port.readTimeout) ∧ PortHeld s ∧ Attempting s ∧
    s.outcome = none ∧ s.error = none

/-- In `Retry` the delay is running and the budget is not spent (42_handshake R140). -/
abbrev RetryOk (s : State) : Prop :=
  s.uop = some (delayRequest s.params.retryDelayMs) ∧ PortHeld s ∧ Attempting s ∧
    s.attempt < s.params.maxAttempts ∧ s.outcome = none ∧ s.error = none

/-- In `Draining` a read of the collector is outstanding and the threshold is not met (43_rawsend R164). -/
abbrev DrainingOk (s : State) : Prop :=
  s.uop = some (readRequest s.params.rxChunk (rawTimeout s)) ∧ PortHeld s ∧ SendingFrame s ∧
    thresholdMet s = false ∧ s.outcome = none ∧ s.error = none

/-- In a terminal state the port is being closed, or is closed and the block waits (42_handshake R142). -/
abbrev TerminalOk (s : State) : Prop := AtRest s ∨ (s.uop = some closeRequest ∧ PortHeld s)

/-- The invariant of the machine: what each state of the FSM implies (10_state R24, R26, R34, R43). -/
abbrev EngineInv (s : State) : Prop :=
  s.params.ok ∧ s.attempt ≤ s.params.maxAttempts ∧ GeneratorOk s ∧ (s.done = true → s.uop = none) ∧
  (s.fsm = .idle → IdleOk s) ∧ (s.fsm = .sending → SendingOk s) ∧ (s.fsm = .awaitingAck → AwaitingOk s) ∧
  (s.fsm = .retry → RetryOk s) ∧ (s.fsm = .draining → DrainingOk s) ∧ (s.fsm = .success → TerminalOk s) ∧
  (s.fsm = .failure → TerminalOk s)

/-! ## Frames -/

/-- The parameters, and what the host has yet to do. -/
abbrev SameHost (s t : State) : Prop := t.params = s.params ∧ t.host = s.host

/-- The command latches of the serial operations but ADDR and OPC. -/
abbrev SameSerialLatches (s t : State) : Prop :=
  t.payload = s.payload ∧ t.rto = s.rto ∧ t.explen = s.explen ∧ t.port = s.port

/-- Every command latch. -/
abbrev SameLatches (s t : State) : Prop :=
  t.op = s.op ∧ t.addr = s.addr ∧ t.opc = s.opc ∧ t.bytes = s.bytes ∧ SameSerialLatches s t

/-- The engine registers that a transport primitive leaves alone: all but LASTRX. -/
abbrev SameControl (s t : State) : Prop :=
  t.fsm = s.fsm ∧ t.mode = s.mode ∧ t.attempt = s.attempt ∧ t.ctrl = s.ctrl ∧ t.txf = s.txf ∧
  t.sum = s.sum ∧ t.chk = s.chk ∧ t.acc = s.acc ∧ t.outcome = s.outcome ∧ t.error = s.error ∧
  t.result = s.result ∧ t.done = s.done

/-- The engine registers that a codec function invoked alone leaves alone: the FSM, the handshake's and the
collector's registers, the port and the flags (40_codec R90). -/
abbrev SameEngine (s t : State) : Prop :=
  t.fsm = s.fsm ∧ t.mode = s.mode ∧ t.attempt = s.attempt ∧ t.ctrl = s.ctrl ∧ t.txf = s.txf ∧
  t.lastrx = s.lastrx ∧ t.acc = s.acc ∧ t.handle = s.handle ∧ t.outcome = s.outcome ∧ t.uop = s.uop ∧
  t.ret = s.ret ∧ t.trace = s.trace

/-- The streams and the line. -/
abbrev SameLine (s t : State) : Prop :=
  t.tx = s.tx ∧ t.rx = s.rx ∧ t.opens = s.opens ∧ t.writes = s.writes ∧ t.reads = s.reads ∧ t.tick = s.tick

/-- The two states differ at most in the registers that an invocation's start writes: what the previous
invocation left in the engine (10_state R42). -/
abbrev SameButEngine (s t : State) : Prop :=
  SameHost s t ∧ t.addr = s.addr ∧ t.opc = s.opc ∧ t.bytes = s.bytes ∧ SameSerialLatches s t ∧
  t.handle = s.handle ∧ SameLine s t

/-! ## Handshakes and their traces -/

/-- The two operations of the handshake: the port, the control byte, and the results with and without an
acknowledgment (42_handshake R131, R132, R144). -/
inductive HandshakeOp : Instr → PortConfig → Byte → Result → Result → Prop where
  | reset (addr : Byte) (port : PortConfig) :
      HandshakeOp (.reset addr port) port (packCtrl addr 0) (.bool true) (.bool false)
  | command (addr : Byte) (opc : Nibble) (port : PortConfig) :
      HandshakeOp (.command addr opc port) port (packCtrl addr opc)
        (.status .ackReceived) (.status .noAckReceived)

/-- An answer to the handshake's read that leaves the attempt unacknowledged (42_handshake R139,
41_transport R116). -/
abbrev Unacknowledged (r : ReadOutcome) : Prop :=
  r = .timedOut ∨ r = .data [] ∨ (bytesOf r).length = 1 ∧ r ≠ .data [Config.ackByte]

/-- An answer to the handshake's read after which, within the budget, another attempt is made: any
unacknowledged one, but a non-ACK byte only if ABORT_ON_NONACK is false, as it is in this hardware
(42_handshake R139, R143; log 17). -/
abbrev Retried (s : State) (r : ReadOutcome) : Prop :=
  Unacknowledged r ∧ (s.params.abortOnNonack = false ∨ bytesOf r = [])

/-- The events of one attempt that is followed by another: the write, the read and the delay. -/
def retriedEvents (ctrl : Byte) (timeout delay : Nat) (r : ReadOutcome) : List Event :=
  [.evWrite [ctrl] .ok, .evRead 1 timeout (clipRead 1 r), .evDelay delay]

/-- The trace of a handshake up to its last attempt. -/
def handshakeEvents (port : PortConfig) (ctrl : Byte) (delay : Nat) (rs : List ReadOutcome) : List Event :=
  .evOpen port .ok :: rs.flatMap (retriedEvents ctrl port.readTimeout delay)

/-- The line gives an answer to every open and write that a handshake can make (42_handshake R147 (d):
"provided every primitive answers"). -/
abbrev LineAnswers (s : State) : Prop :=
  s.opens ≠ [] ∧ OpenAnswer.hold ∉ s.opens ∧ s.params.maxAttempts ≤ s.writes.length ∧
  WriteAnswer.hold ∉ s.writes

/-- The time-out of RAWSEND's reads (41_transport R118). -/
def rawsendTimeout (port : PortConfig) (rto : Option Nat) : Nat := rto.getD port.readTimeout

/-- A chunk that one read of the collector can deliver (41_transport R115, R117). -/
abbrev Chunk (s : State) (bs : List Byte) : Prop := bs ≠ [] ∧ bs.length ≤ s.params.rxChunk

/-- The buffers hold what is sent and what is received; unbounded ones, as in the model's own parameters, hold
anything (00_scope R13, 92 D11). -/
abbrev Fits (s : State) (sent received : Nat) : Prop :=
  (∀ m, s.params.payloadMax = some m → sent ≤ m) ∧ (∀ m, s.params.accMax = some m → received ≤ m)

/-- An invocation of a caller that does not wait for the one in progress, on another port or of an operation that
does not reach the line: it waits its turn in the one engine (20_memory R51, R65; log 16). -/
abbrev WaitsItsTurn (port : Text) (e : HostEvent) : Prop :=
  ∃ r, e = .overlap r ∧ (2 < r.op.toNat ∨ r.portId ≠ port)

end Sys2Proof.Machine
end

