-- ==== Sys2Proof/Certificates/Slice0/Obligations.lean ====
section
/-! DEFINITION. The statements for the provers. Each docstring says which rule of spec/ it formalises. -/

open Sys2Proof Sys2Proof.Machine

/-! ## Reset, waiting, fetching -/

/-- What power-on reset leaves, for the registers to which R43 gives a value, and the flags (10_state R43,
second column; 70_reset R220, R222). MAX_ATTEMPTS and RETRY_DELAY_MS are the document's (00_scope R6, R7). -/
def Obligations.ResetState : Prop :=
  State.reset.fsm = .idle ∧ State.reset.attempt = 0 ∧ State.reset.lastrx = none ∧ State.reset.acc = [] ∧
  State.reset.outcome = none ∧ State.reset.done = false ∧ State.reset.handle = .closed ∧
  State.reset.trace = [] ∧ readTimer State.reset = none ∧ delayTimer State.reset = none ∧
  acked State.reset = false ∧ lastTimeout State.reset = false ∧ lastNonack State.reset = false ∧
  State.reset.params.maxAttempts = 3 ∧ State.reset.params.retryDelayMs = 200

/-- After reset, and after any invocation, the block does nothing until the host invokes an operation
(70_reset R222, 60_exceptions R205). -/
def Obligations.WaitsForHost : Prop :=
  step State.reset = .next State.reset ∧
  ∀ s : State, s.uop = none → s.host = [] → step s = .next s

/-- A step runs the host's invocation when no request of the engine is outstanding, and the engine's request
followed by the engine's transition otherwise (20_memory R61, 30_encoding R76, R77; log 1). -/
def Obligations.StepRunsRequest : Prop :=
  (∀ (s : State) (r : HostRegs) (rest : List HostEvent) (i : Instr),
    s.uop = none → (s.host = .invoke r :: rest ∨ s.host = .overlap r :: rest) →
    decode (.host r) = .ok i → step s = exec i { s with host := rest }) ∧
  (∀ (s : State) (u : UopRegs) (i : Instr),
    s.uop = some u → intrusion s = none → decode (.uop u) = .ok i →
    step s = andThen (exec i { s with uop := none }) advance)

/-- The refusals of a step by name (60_exceptions R212; 30_encoding R77, R83; 20_memory R64, R65; 70_reset R226): a
request of the host or of the engine that is no operation, and, during an invocation, another one on the same port or
a change of operands, also behind invocations that wait their turn (log 16). -/
def Obligations.StepRefusals : Prop :=
  (∀ (s : State) (r : HostRegs) (rest : List HostEvent) (e : DecodeError),
    s.uop = none → (s.host = .invoke r :: rest ∨ s.host = .overlap r :: rest) → decode (.host r) = .error e →
    step s = .refused (.undecodable e)) ∧
  (∀ (s : State) (u : UopRegs) (e : DecodeError),
    s.uop = some u → intrusion s = none → decode (.uop u) = .error e → step s = .refused (.undecodable e)) ∧
  (∀ (s : State) (u : UopRegs) (r : HostRegs) (waiting rest : List HostEvent),
    s.uop = some u → (∀ e ∈ waiting, WaitsItsTurn s.port.id e) → s.host = waiting ++ .overlap r :: rest →
    r.op.toNat ≤ 2 → r.portId = s.port.id → step s = .refused .overlappingInvocation) ∧
  (∀ (s : State) (u : UopRegs) (waiting rest : List HostEvent),
    s.uop = some u → (∀ e ∈ waiting, WaitsItsTurn s.port.id e) → s.host = waiting ++ .rewrite :: rest →
    step s = .refused .operandsChanged) ∧
  (∀ (s : State) (u : UopRegs) (i : Instr) (r : HostRegs) (waiting rest : List HostEvent),
    s.uop = some u → (∀ e ∈ waiting, WaitsItsTurn s.port.id e) →
    (s.host = waiting ∨ s.host = waiting ++ .invoke r :: rest) → decode (.uop u) = .ok i →
    step s = andThen (exec i { s with uop := none }) advance)

/-! ## Encodings -/

/-- Decoding what is encoded gives the operation back, with every operand at every value its registers hold
(30_encoding R76 to R79, R88). -/
def Obligations.DecodeEncode : Prop :=
  ∀ i : Instr, i.wellFormed = true → decode (encode i) = .ok i

/-- Whatever the decoder accepts is well formed (30_encoding R78, R79; 41_transport R113, R115). -/
def Obligations.DecodeWellFormed : Prop :=
  ∀ (r : Request) (i : Instr), decode r = .ok i → i.wellFormed = true

/-- Reserved codes are rejected by name, and no operation is read from them (30_encoding R83, R77). -/
def Obligations.ReservedCodes : Prop :=
  (∀ r : HostRegs, 10 ≤ r.op.toNat → decode (.host r) = .error (.reservedOp r.op)) ∧
  (∀ u : UopRegs, 5 ≤ u.code.toNat → decode (.uop u) = .error (.reservedUop u.code)) ∧
  (∀ r : HostRegs, r.op.toNat ≤ 2 → r.cfg.extractLsb' 2 2 = 3#2 →
    decode (.host r) = .error .reservedParity) ∧
  (∀ r : HostRegs, r.op.toNat ≤ 2 → r.cfg.extractLsb' 2 2 ≠ 3#2 → r.cfg.extractLsb' 5 2 = 3#2 →
    decode (.host r) = .error .reservedFlow)

/-- A few words written out from the encodings (95 V-EN1, V-EN2, V-EN4, V-EN11, V-EN13, V-EN15). -/
def Obligations.SpecWords : Prop :=
  decodeDataBits ((0x4B#8).extractLsb' 0 2) = .eight ∧
  decodeParity ((0x4B#8).extractLsb' 2 2) = .ok .even ∧
  decodeFlow ((0x4B#8).extractLsb' 5 2) = .ok .hardware ∧
  decodeStopBits ((0x57#8).getLsbD 4) = .two ∧ decodeParity ((0x57#8).extractLsb' 2 2) = .ok .odd ∧
  decodeOptional 0x80000004#32 = some 4 ∧ decodeOptional 0x80000000#32 = some 0 ∧
  decodeOptional 0x00000000#32 = none ∧
  decode (.host { op := 6, addr := 0x1F, opc := 3 }) = .ok (.packCtrl 0x1F 3) ∧
  decode (.uop { code := 4, ms := 200 }) = .ok (.delay 200)

/-- The read time-out of an invocation: the port's own, 200 ms where the caller supplies none; RAWSEND's RTO
overrides it (41_transport R118, 00_scope R8). -/
def Obligations.ReadTimeout : Prop :=
  (∀ (r : HostRegs) (p : PortConfig), decodePort r = .ok p →
    p.readTimeout = match r.readTimeout with | some t => t.toNat | none => 200) ∧
  (∀ s : State, rawTimeout s = s.rto.getD s.port.readTimeout)

/-! ## The codec -/

/-- The checksum does not depend on the accumulator's width: a wrapping accumulator of any width from 8 bits
gives the sum mod 256, and 16 bits do not wrap for up to 257 bytes (40_codec R92). -/
def Obligations.ChecksumWidthFree : Prop :=
  (∀ (w : Nat) (bs : List Byte), runningSum w bs = byteSum bs % 2 ^ w) ∧
  (∀ (w : Nat) (bs : List Byte), 8 ≤ w →
    BitVec.ofNat 8 (runningSum w bs) = checksum bs ∧ (checksum bs).toNat = byteSum bs % 256) ∧
  (∀ bs : List Byte, bs.length ≤ 257 → runningSum 16 bs = byteSum bs)

/-- The laws of CHECKSUM (40_codec R101 (a) to (e)). -/
def Obligations.ChecksumLaws : Prop :=
  (∀ a b : List Byte, a.Perm b → checksum a = checksum b) ∧
  (∀ a b : List Byte, checksum (a ++ b) = checksum a + checksum b) ∧
  (∀ a : List Byte, checksum (a ++ [0x00#8]) = checksum a) ∧
  (∀ a : List Byte, checksum (buildFrame a) = checksum a + checksum a) ∧
  (∀ a b : List Byte, byteSum a % 256 = byteSum b % 256 → checksum a = checksum b)

/-- The assembly of the control byte (30_encoding R81): the nibbles, the formula, the discarded low nibble of
the address, and the OR as an addition that never carries. -/
def Obligations.ControlByte : Prop :=
  ∀ (a : Byte) (o : Nibble),
    packCtrl a o = (a &&& 0xF0#8) ||| o.setWidth 8 ∧
    (packCtrl a o).extractLsb' 4 4 = a.extractLsb' 4 4 ∧ (packCtrl a o).extractLsb' 0 4 = o ∧
    (packCtrl a o).toNat = (a &&& 0xF0#8).toNat + o.toNat ∧
    ∀ b : Byte, b.extractLsb' 4 4 = a.extractLsb' 4 4 → packCtrl b o = packCtrl a o

/-- The laws of PACK_CTRL (40_codec R95 (a) to (c)). -/
def Obligations.PackCtrlLaws : Prop :=
  (∀ o : Nibble, packCtrl 0x10 o = packCtrl 0x1F o ∧ packCtrl 0x10 o = 0x10#8 ||| o.setWidth 8) ∧
  (∀ (a : Byte) (o : Nibble),
    packCtrl a o ^^^ packCtrl a 0 = o.setWidth 8 ∧ packCtrl a o - packCtrl a 0 = o.setWidth 8 ∧
    (packCtrl a o).extractLsb' 4 4 = (packCtrl a 0).extractLsb' 4 4) ∧
  (∀ (a b : Byte) (o : Nibble), a.extractLsb' 4 4 ≠ b.extractLsb' 4 4 →
    (packCtrl a o).extractLsb' 4 4 ≠ (packCtrl b o).extractLsb' 4 4 ∧
    (packCtrl a o).extractLsb' 0 4 = (packCtrl b o).extractLsb' 0 4)

/-- VERIFY_CHECKSUM is the converse of BUILD_FRAME: it accepts exactly the built frames (40_codec R98). -/
def Obligations.VerifyAcceptsFrames : Prop :=
  ∀ f : List Byte, verifyChecksum f = true ↔ ∃ b, f = buildFrame b

/-- CHECKSUM invoked alone completes with the sum mod 256, leaves the generator's registers as R91 says, and
changes nothing else but OP, the operand, RESULT, DONE and the error code (40_codec R90, R91). -/
def Obligations.ChecksumCompletes : Prop :=
  ∀ (s : State) (b : List Byte), ∃ t, exec (.checksum b) s = .next t ∧
    t.result = .byte (BitVec.ofNat 8 (byteSum b % 256)) ∧ t.done = true ∧
    t.op = .checksum ∧ t.bytes = b ∧ t.error = none ∧
    t.sum = byteSum b % 2 ^ s.params.sumWidth ∧ t.chk = BitVec.ofNat 8 (byteSum b) ∧
    SameHost s t ∧ t.addr = s.addr ∧ t.opc = s.opc ∧ SameSerialLatches s t ∧ SameEngine s t ∧ SameLine s t

/-- BUILD_FRAME invoked alone completes with the given bytes and the low byte of SUM, the sum of the
zero-extended bytes (30_encoding R82; 40_codec R93); its frame is R90's. That the error code is cleared is the
model's reading (log 10). -/
def Obligations.BuildFrameCompletes : Prop :=
  ∀ (s : State) (b : List Byte), ∃ t, exec (.buildFrame b) s = .next t ∧
    t.sum = byteSum b % 2 ^ s.params.sumWidth ∧ t.chk = BitVec.ofNat 8 t.sum ∧
    t.result = .frame (b ++ [BitVec.ofNat 8 t.sum]) ∧ t.result = .frame (buildFrame b) ∧
    (buildFrame b).length = b.length + 1 ∧ t.done = true ∧
    t.op = .buildFrame ∧ t.bytes = b ∧ t.error = none ∧
    SameHost s t ∧ t.addr = s.addr ∧ t.opc = s.opc ∧ SameSerialLatches s t ∧ SameEngine s t ∧ SameLine s t

/-- PACK_CTRL invoked alone completes with the control byte; its frame is R90's (40_codec R94). -/
def Obligations.PackCtrlCompletes : Prop :=
  ∀ (s : State) (a : Byte) (o : Nibble), ∃ t, exec (.packCtrl a o) s = .next t ∧
    t.result = .byte ((a &&& 0xF0#8) ||| o.setWidth 8) ∧ t.done = true ∧
    t.op = .packCtrl ∧ t.addr = a ∧ t.opc = o ∧ t.error = none ∧
    SameHost s t ∧ t.bytes = s.bytes ∧ t.sum = s.sum ∧ t.chk = s.chk ∧
    SameSerialLatches s t ∧ SameEngine s t ∧ SameLine s t

/-- IS_ACK and DECODE_RESPONSE invoked alone complete: exactly one byte 0x00, and the bytes with their count;
their frame is R90's (40_codec R96, R97). -/
def Obligations.InboundCompletes : Prop :=
  (∀ (s : State) (b : List Byte), ∃ t, exec (.isAck b) s = .next t ∧
    t.result = .bool (decide (b = [0x00#8])) ∧ t.done = true ∧
    t.op = .isAck ∧ t.bytes = b ∧ t.error = none ∧ t.sum = s.sum ∧ t.chk = s.chk ∧
    SameHost s t ∧ t.addr = s.addr ∧ t.opc = s.opc ∧ SameSerialLatches s t ∧ SameEngine s t ∧ SameLine s t) ∧
  (∀ (s : State) (b : List Byte), ∃ t, exec (.decodeResponse b) s = .next t ∧
    t.result = .bytes { raw := b, count := b.length } ∧ t.done = true ∧
    t.op = .decodeResponse ∧ t.bytes = b ∧ t.error = none ∧ t.sum = s.sum ∧ t.chk = s.chk ∧
    SameHost s t ∧ t.addr = s.addr ∧ t.opc = s.opc ∧ SameSerialLatches s t ∧ SameEngine s t ∧ SameLine s t)

/-- VERIFY_CHECKSUM invoked alone completes where the unit is present: false of the empty sequence, on which the
generator does not run, else whether the last byte is the sum of the others mod 256; it is refused where the unit is
absent (40_codec R98, 30_encoding R83). That the error code is cleared is the model's reading (log 10), and the
presence of the unit a parameter (log 5). -/
def Obligations.VerifyCompletes : Prop :=
  (∀ (s : State) (f : List Byte), s.params.hasVerify = true →
    ∃ t v, exec (.verifyChecksum f) s = .next t ∧ t.result = .bool v ∧ t.done = true ∧
      (v = true ↔ ∃ b c, f = b ++ [c] ∧ c = BitVec.ofNat 8 (byteSum b)) ∧
      (f = [] → t.sum = s.sum ∧ t.chk = s.chk) ∧
      (∀ b c, f = b ++ [c] →
        t.sum = byteSum b % 2 ^ s.params.sumWidth ∧ t.chk = BitVec.ofNat 8 (byteSum b)) ∧
      t.op = .verifyChecksum ∧ t.bytes = f ∧ t.error = none ∧
      SameHost s t ∧ t.addr = s.addr ∧ t.opc = s.opc ∧ SameSerialLatches s t ∧ SameEngine s t ∧
      SameLine s t) ∧
  (∀ (s : State) (f : List Byte), s.params.hasVerify = false →
    exec (.verifyChecksum f) s = .refused .verifyAbsent)

/-! ## The transport -/

/-- T_OPEN completes by the line's answer: the port is held, or the error is returned and HANDLE stays
Closed, or the request stands until the line answers (41_transport R111). -/
def Obligations.OpenCompletes : Prop :=
  ∀ (s : State) (cfg : PortConfig), s.handle = .closed → cfg.dataBits = .eight →
    ∃ t, exec (.tOpen cfg) s = .next t ∧
      (openAnswer s = .ok → t.handle = .opened cfg ∧ t.ret = .ok ∧ t.uop = s.uop ∧
        t.trace = s.trace ++ [.evOpen cfg .ok]) ∧
      (∀ c, openAnswer s = .err c → t.handle = .closed ∧ t.ret = .portOpenError cfg.id c ∧ t.uop = s.uop ∧
        t.trace = s.trace ++ [.evOpen cfg (.err c)]) ∧
      (openAnswer s = .hold → t.handle = .closed ∧ t.ret = .waiting ∧ t.uop = some (openRequest cfg) ∧
        t.trace = s.trace) ∧
      SameHost s t ∧ SameLatches s t ∧ SameControl s t ∧ t.lastrx = s.lastrx ∧ t.tx = s.tx ∧ t.rx = s.rx ∧
      t.writes = s.writes ∧ t.reads = s.reads

/-- T_WRITE completes by the line's answer: all the bytes are on TX, or the error is returned and some prefix
of them is, or the request stands (41_transport R113, R114; 20_memory R58). -/
def Obligations.WriteCompletes : Prop :=
  ∀ (s : State) (cfg : PortConfig) (v : List Byte), s.handle = .opened cfg →
    ∃ t, exec (.tWrite v) s = .next t ∧
      (writeAnswer s = .ok → t.tx = s.tx ++ v ∧ t.ret = .ok ∧ t.uop = s.uop ∧
        t.trace = s.trace ++ [.evWrite v .ok]) ∧
      (∀ c k, writeAnswer s = .err c k → t.tx = s.tx ++ v.take k ∧ t.ret = .writeError c ∧ t.uop = s.uop ∧
        t.trace = s.trace ++ [.evWrite v (.err c)]) ∧
      (writeAnswer s = .hold → t.tx = s.tx ∧ t.ret = .waiting ∧ t.uop = some (writeRequest v) ∧
        t.trace = s.trace) ∧
      SameHost s t ∧ SameLatches s t ∧ SameControl s t ∧ t.lastrx = s.lastrx ∧ t.handle = s.handle ∧
      t.rx = s.rx ∧ t.opens = s.opens ∧ t.reads = s.reads

/-- In a frame the checksum is the last byte on the wire (20_memory R54). -/
def Obligations.FrameOnWire : Prop :=
  ∀ (s : State) (cfg : PortConfig) (payload : List Byte), s.handle = .opened cfg → writeAnswer s = .ok →
    ∃ t, exec (.tWrite (buildFrame payload)) s = .next t ∧
      t.tx = s.tx ++ payload ++ [BitVec.ofNat 8 (byteSum payload)]

/-- T_READ completes with one of three outcomes, recorded in LASTRX and in the trace; the bytes it returns
leave RX (41_transport R115, 20_memory R59). The capacity is at least 1. -/
def Obligations.ReadCompletes : Prop :=
  ∀ (s : State) (cfg : PortConfig) (cap timeout : Nat), s.handle = .opened cfg → 1 ≤ cap →
    ∃ t r, exec (.tRead cap timeout) s = .next t ∧ t.ret = .read r ∧ t.lastrx = some r ∧
      t.trace = s.trace ++ [.evRead cap timeout r] ∧ t.rx = s.rx ++ bytesOf r ∧ t.uop = s.uop ∧
      (∀ bs, readAnswer s = .data bs → bs ≠ [] → bs.length ≤ cap →
        r = .data bs ∧ t.reads = s.reads.tail) ∧
      (readAnswer s = .timedOut → r = .timedOut ∧ t.reads = s.reads.tail) ∧
      (∀ c, readAnswer s = .readError c → r = .readError c ∧ t.reads = s.reads.tail) ∧
      SameHost s t ∧ SameLatches s t ∧ SameControl s t ∧ t.handle = s.handle ∧ t.tx = s.tx ∧
      t.opens = s.opens ∧ t.writes = s.writes

/-- Data of length zero is treated exactly as a time-out, and data that the engine sees has from one byte to
the capacity (41_transport R116, R115). -/
def Obligations.ZeroBytesIsTimeout : Prop :=
  (∀ (s : State) (cap timeout : Nat) (rest : List ReadOutcome),
    exec (.tRead cap timeout) { s with reads := .data [] :: rest }
      = exec (.tRead cap timeout) { s with reads := .timedOut :: rest }) ∧
  (∀ (s t : State) (cap timeout : Nat) (bs : List Byte), exec (.tRead cap timeout) s = .next t →
    t.ret = .read (.data bs) → 1 ≤ bs.length ∧ bs.length ≤ cap)

/-- T_CLOSE completes: the port is closed and the event recorded; DELAY completes: the wait is recorded and
nothing else happens (41_transport R119, R127). -/
def Obligations.CloseAndDelayComplete : Prop :=
  (∀ (s : State) (cfg : PortConfig), s.handle = .opened cfg →
    ∃ t, exec .tClose s = .next t ∧ t.handle = .closed ∧ t.ret = .nothing ∧ t.trace = s.trace ++ [.evClose] ∧
      t.uop = s.uop ∧ SameHost s t ∧ SameLatches s t ∧ SameControl s t ∧ t.lastrx = s.lastrx ∧ SameLine s t) ∧
  (∀ (s : State) (ms : Nat),
    ∃ t, exec (.delay ms) s = .next t ∧ t.ret = .nothing ∧ t.trace = s.trace ++ [.evDelay ms] ∧
      t.handle = s.handle ∧ t.uop = s.uop ∧ SameHost s t ∧ SameLatches s t ∧ SameControl s t ∧
      t.lastrx = s.lastrx ∧ SameLine s t)

/-- A primitive whose `require x[HANDLE]` does not hold stops by name (41_transport R111, R113, R115, R119;
the stop is the model's, log 19). -/
def Obligations.RequiredHandle : Prop :=
  (∀ (s : State) (c cfg : PortConfig), s.handle = .opened c → exec (.tOpen cfg) s = .fault .handleAlreadyOpen) ∧
  (∀ (s : State) (v : List Byte), s.handle = .closed → exec (.tWrite v) s = .fault .handleNotOpen) ∧
  (∀ (s : State) (cap t : Nat), s.handle = .closed → exec (.tRead cap t) s = .fault .handleNotOpen) ∧
  (∀ s : State, s.handle = .closed → exec .tClose s = .fault .handleNotOpen)

/-- A configuration with `data_bits` other than 8 is refused, by the three serial operations and by T_OPEN
(41_transport R112). -/
def Obligations.NarrowRefused : Prop :=
  ∀ (s : State) (p : PortConfig), p.dataBits ≠ .eight →
    (∀ a, exec (.reset a p) s = .refused .narrowCharacters) ∧
    (∀ a o, exec (.command a o p) s = .refused .narrowCharacters) ∧
    (∀ b r e, exec (.rawsend p b r e) s = .refused .narrowCharacters) ∧
    (s.handle = .closed → exec (.tOpen p) s = .refused .narrowCharacters)

/-- BRIDGE is refused by the hardware, in every state and for every text (44_bridge R175). -/
def Obligations.BridgeRefused : Prop :=
  ∀ (s : State) (text : Text), exec (.bridge text) s = .refused .bridgeExcluded

/-! ## The start of a serial operation -/

/-- RESET and COMMAND start: every engine register takes its start value, MODE and CTRL are set, and the open
is requested; the streams, the line and the other latches are unchanged (42_handshake R131, R132, R134;
10_state R43, third column). RESULT, SUM, CHK and TXF are put to the model's reset values (log 6). -/
def Obligations.HandshakeStarts : Prop :=
  (∀ (s : State) (addr : Byte) (port : PortConfig), port.dataBits = .eight →
    exec (.reset addr port) s = .next
      { s with
        op := .reset, addr := addr, port := port, fsm := .idle, mode := .reset, attempt := 0,
        ctrl := addr &&& 0xF0#8, txf := [], sum := 0, chk := 0, lastrx := none, acc := [],
        outcome := none, error := none, result := .bool false, done := false,
        uop := some { code := 0, cfg := port }, ret := .nothing, trace := [] }) ∧
  (∀ (s : State) (addr : Byte) (opc : Nibble) (port : PortConfig), port.dataBits = .eight →
    exec (.command addr opc port) s = .next
      { s with
        op := .command, addr := addr, opc := opc, port := port, fsm := .idle, mode := .command,
        attempt := 0, ctrl := (addr &&& 0xF0#8) ||| opc.setWidth 8, txf := [], sum := 0, chk := 0,
        lastrx := none, acc := [], outcome := none, error := none, result := .bool false,
        done := false, uop := some { code := 0, cfg := port }, ret := .nothing, trace := [] })

/-- RAWSEND starts: as a handshake, with MODE RawFrame and TXF the payload's frame (43_rawsend R161); a
payload beyond a finite PAYLOAD_MAX is refused (92 D11). -/
def Obligations.RawsendStarts : Prop :=
  (∀ (s : State) (port : PortConfig) (payload : List Byte) (rto explen : Option Nat),
    port.dataBits = .eight → payloadOverlong s payload = false →
    exec (.rawsend port payload rto explen) s = .next
      { s with
        op := .rawsend, port := port, payload := payload, rto := rto, explen := explen, fsm := .idle,
        mode := .rawFrame, attempt := 0, ctrl := 0,
        txf := payload ++ [BitVec.ofNat 8 (byteSum payload)],
        sum := byteSum payload % 2 ^ s.params.sumWidth, chk := BitVec.ofNat 8 (byteSum payload),
        lastrx := none, acc := [], outcome := none, error := none, result := .bool false,
        done := false, uop := some { code := 0, cfg := port }, ret := .nothing, trace := [] }) ∧
  (∀ (s : State) (port : PortConfig) (payload : List Byte) (rto explen : Option Nat) (m : Nat),
    port.dataBits = .eight → s.params.payloadMax = some m → m < payload.length →
    exec (.rawsend port payload rto explen) s = .refused .payloadTooLong)

/-- No state is retained from one invocation to the next: two states that differ only in what an earlier
invocation left in the engine start the same (10_state R42, 60_exceptions R205). -/
def Obligations.NothingRetained : Prop :=
  ∀ (s s' : State) (i : Instr), SameButEngine s s' →
    (∃ port ctrl yes no, HandshakeOp i port ctrl yes no) ∨ (∃ p b r e, i = .rawsend p b r e) →
    exec i s = exec i s'

/-! ## The transitions -/

/-- The answer to the open: on Ok the first `Sending`, ATTEMPT 1 in a handshake and 0 in raw-frame mode; on
an error `Failure` with the error as the result, nothing written, read or closed (42_handshake R134, R135;
43_rawsend R161). -/
def Obligations.AfterOpen : Prop :=
  ∀ s : State, s.fsm = .idle → s.uop = some (openRequest s.port) → s.handle = .closed →
    s.port.dataBits = .eight → s.attempt = 0 → intrusion s = none →
    (openAnswer s = .ok → ∃ t, step s = .next t ∧ t.fsm = .sending ∧ t.handle = .opened s.port ∧
      t.attempt = (if s.mode = .rawFrame then 0 else 1) ∧ t.uop = some (writeRequest (unitToSend s)) ∧
      t.outcome = s.outcome ∧ t.tx = s.tx ∧ t.rx = s.rx ∧ t.done = s.done) ∧
    (∀ c, openAnswer s = .err c → ∃ t, step s = .next t ∧ t.fsm = .failure ∧ t.handle = .closed ∧
      t.attempt = 0 ∧ t.uop = none ∧ t.outcome = s.outcome ∧ t.tx = s.tx ∧ t.rx = s.rx ∧
      t.result = .error (.portOpenError s.port.id c) ∧ t.done = true ∧ errorCode t = 1 ∧
      t.trace = s.trace ++ [.evOpen s.port (.err c)])

/-- In `Sending` the engine writes one control byte, or one full frame in raw-frame mode; after a write
failure the outcome is TransportError, the state Failure and the next request the close, whatever ATTEMPT is
(42_handshake R136). -/
def Obligations.AfterHandshakeWrite : Prop :=
  ∀ s : State, s.fsm = .sending → s.uop = some (writeRequest (unitToSend s)) → PortHeld s →
    unitToSend s ≠ [] → intrusion s = none →
    (s.mode ≠ .rawFrame → unitToSend s = [s.ctrl]) ∧ (s.mode = .rawFrame → unitToSend s = s.txf) ∧
    (s.mode ≠ .rawFrame → writeAnswer s = .ok →
      ∃ t, step s = .next t ∧ t.fsm = .awaitingAck ∧ t.tx = s.tx ++ [s.ctrl] ∧ t.attempt = s.attempt ∧
        t.uop = some (readRequest 1 s.port.readTimeout) ∧ PortHeld t ∧ t.outcome = s.outcome) ∧
    (s.mode ≠ .rawFrame → ∀ c k, writeAnswer s = .err c k →
      ∃ t, step s = .next t ∧ t.fsm = .failure ∧ t.tx = s.tx ++ [s.ctrl].take k ∧ t.attempt = s.attempt ∧
        t.outcome = some (.transportError c) ∧ t.error = some (.writeError s.port.id c) ∧
        t.uop = some closeRequest ∧ PortHeld t)

/-- An acknowledged attempt: exactly one byte 0x00 from the one read, made with the port's time-out, gives
Success and Acknowledged, and no further read (42_handshake R137). -/
def Obligations.Acknowledge : Prop :=
  ∀ s : State, s.fsm = .awaitingAck → s.uop = some (readRequest 1 s.port.readTimeout) → PortHeld s →
    intrusion s = none → readAnswer s = .data [0x00#8] →
    ∃ t, step s = .next t ∧ t.fsm = .success ∧ t.outcome = some .acknowledged ∧ acked t = true ∧
      t.trace = s.trace ++ [.evRead 1 s.port.readTimeout (.data [0x00#8])] ∧
      t.uop = some closeRequest ∧ t.attempt = s.attempt

/-- A read failure ends the handshake at once: TransportError, Failure, no delay and no further attempt
(42_handshake R138). -/
def Obligations.HandshakeReadFailure : Prop :=
  ∀ (s : State) (c : Cause), s.fsm = .awaitingAck → s.uop = some (readRequest 1 s.port.readTimeout) →
    PortHeld s → s.mode ≠ .rawFrame → intrusion s = none → readAnswer s = .readError c →
    ∃ t, step s = .next t ∧ t.fsm = .failure ∧ t.outcome = some (.transportError c) ∧
      t.error = some (.readError s.port.id c) ∧ t.uop = some closeRequest ∧ t.attempt = s.attempt ∧
      t.tx = s.tx

/-- An unacknowledged attempt below the maximum: Retry and the fixed delay, then the counter is incremented
and `Sending` entered again with the same control byte, the same for a time-out and for a non-ACK byte
(42_handshake R139, R140, R143). The parameter ABORT_ON_NONACK is false in this hardware (R143); where it is true the
statement speaks of the reads that gave no byte. -/
def Obligations.RetryThenSend : Prop :=
  ∀ s : State, s.fsm = .awaitingAck → s.uop = some (readRequest 1 s.port.readTimeout) → PortHeld s →
    s.mode ≠ .rawFrame → intrusion s = none → Retried s (readAnswer s) →
    s.attempt < s.params.maxAttempts →
    ∃ t u, step s = .next t ∧ t.fsm = .retry ∧ t.uop = some (delayRequest s.params.retryDelayMs) ∧
      t.attempt = s.attempt ∧ t.tx = s.tx ∧ t.outcome = s.outcome ∧
      t.trace = s.trace ++ [.evRead 1 s.port.readTimeout (clipRead 1 (readAnswer s))] ∧
      step t = .next u ∧ u.fsm = .sending ∧ u.attempt = s.attempt + 1 ∧ u.ctrl = s.ctrl ∧
      u.uop = some (writeRequest [s.ctrl]) ∧ u.trace = t.trace ++ [.evDelay s.params.retryDelayMs] ∧
      u.tx = s.tx ∧ PortHeld u

/-- The budget is exhausted: Failure with TimedOut, or with NotAcknowledged and the byte if the last read gave
one, whatever earlier reads gave, and no delay follows (42_handshake R141). -/
def Obligations.BudgetExhausted : Prop :=
  ∀ s : State, s.fsm = .awaitingAck → s.uop = some (readRequest 1 s.port.readTimeout) → PortHeld s →
    intrusion s = none → s.params.maxAttempts ≤ s.attempt →
    ((readAnswer s = .timedOut ∨ readAnswer s = .data []) →
      ∃ t, step s = .next t ∧ t.fsm = .failure ∧ t.outcome = some .timedOut ∧
        t.lastrx = some .timedOut ∧ t.uop = some closeRequest ∧ t.error = s.error ∧ t.attempt = s.attempt) ∧
    (∀ b : Byte, b ≠ 0x00#8 → readAnswer s = .data [b] →
      ∃ t, step s = .next t ∧ t.fsm = .failure ∧ t.outcome = some (.notAcknowledged [b]) ∧
        t.lastrx = some (.data [b]) ∧ t.uop = some closeRequest ∧ t.error = s.error ∧ t.attempt = s.attempt)

/-- After the frame is written once the collector begins, with its first read unless the threshold is met
already; a write failure is never retried (43_rawsend R162, R167 (b)). -/
def Obligations.AfterFrameWrite : Prop :=
  ∀ s : State, s.fsm = .sending → s.mode = .rawFrame → s.uop = some (writeRequest s.txf) → s.txf ≠ [] →
    PortHeld s → intrusion s = none →
    (writeAnswer s = .ok → ∃ t, step s = .next t ∧ t.tx = s.tx ++ s.txf ∧ t.acc = s.acc ∧
      (thresholdMet s = false → t.fsm = .draining ∧
        t.uop = some (readRequest s.params.rxChunk (rawTimeout s))) ∧
      (thresholdMet s = true → t.fsm = .success ∧ t.uop = some closeRequest)) ∧
    (∀ c k, writeAnswer s = .err c k → ∃ t, step s = .next t ∧ t.tx = s.tx ++ s.txf.take k ∧
      t.fsm = .failure ∧ t.outcome = s.outcome ∧ t.error = some (.writeError s.port.id c) ∧
      t.uop = some closeRequest)

/-- The collector (43_rawsend R164, R165): a read that times out ends it; data that ACC can hold is appended to ACC and
the threshold tested before the next read, which is made with the capacity and time-out in force; a read failure
is an error. -/
def Obligations.CollectorStep : Prop :=
  ∀ s : State, s.fsm = .draining → s.mode = .rawFrame → s.params.rxChunk ≠ 0 →
    s.uop = some (readRequest s.params.rxChunk (rawTimeout s)) → PortHeld s → intrusion s = none →
    ((readAnswer s = .timedOut ∨ readAnswer s = .data []) →
      ∃ t, step s = .next t ∧ t.fsm = .success ∧ t.acc = s.acc ∧ t.uop = some closeRequest) ∧
    (∀ bs, Chunk s bs → readAnswer s = .data bs →
      (∀ m, s.params.accMax = some m → s.acc.length + bs.length ≤ m) →
      ∃ t, step s = .next t ∧ t.acc = s.acc ++ bs ∧
        ((∃ n, s.explen = some n ∧ n ≤ s.acc.length + bs.length) →
          t.fsm = .success ∧ t.uop = some closeRequest) ∧
        ((∀ n, s.explen = some n → s.acc.length + bs.length < n) →
          t.fsm = .draining ∧ t.uop = s.uop)) ∧
    (∀ c, readAnswer s = .readError c →
      ∃ t, step s = .next t ∧ t.fsm = .failure ∧ t.error = some (.readError s.port.id c) ∧
        t.uop = some closeRequest)

/-- The release and the result: in a terminal state the port is closed and then RESULT and DONE are written,
by the table of R144 for a handshake and the collected bytes for a raw frame; OUTCOME is kept
(42_handshake R142, R144; 43_rawsend R165, R166; 41_transport R122). -/
def Obligations.Delivery : Prop :=
  ∀ s : State, (s.fsm = .success ∨ s.fsm = .failure) → s.uop = some closeRequest → PortHeld s →
    intrusion s = none →
    ∃ t, step s = .next t ∧ t.handle = .closed ∧ t.done = true ∧ t.uop = none ∧ t.fsm = s.fsm ∧
      t.outcome = s.outcome ∧ t.trace = s.trace ++ [.evClose] ∧
      (∀ e, s.error = some e → t.result = .error e ∧ errorCode t = e.code) ∧
      (s.error = none → s.mode = .reset →
        t.result = .bool (decide (s.outcome = some .acknowledged))) ∧
      (s.error = none → s.mode = .command → s.outcome = some .acknowledged →
        t.result = .status .ackReceived) ∧
      (s.error = none → s.mode = .command → s.outcome ≠ some .acknowledged →
        t.result = .status .noAckReceived) ∧
      (s.error = none → s.mode = .rawFrame →
        t.result = .bytes { raw := s.acc, count := s.acc.length })

/-- While the line has not answered an open or a write, the engine's request stands, nothing is written,
read or counted, and the host and the line's other answers wait (93 U7; 41_transport R113, R123; log 4). -/
def Obligations.HeldOff : Prop :=
  (∀ s : State, s.uop = some (openRequest s.port) → s.handle = .closed → s.port.dataBits = .eight →
    intrusion s = none → openAnswer s = .hold →
    ∃ t, step s = .next t ∧ t.uop = s.uop ∧ t.handle = s.handle ∧ SameHost s t ∧ SameLatches s t ∧
      SameControl s t ∧ t.lastrx = s.lastrx ∧ t.tx = s.tx ∧ t.rx = s.rx ∧ t.trace = s.trace ∧
      t.writes = s.writes ∧ t.reads = s.reads) ∧
  (∀ (s : State) (v : List Byte), s.uop = some (writeRequest v) → v ≠ [] → PortHeld s →
    intrusion s = none → writeAnswer s = .hold →
    ∃ t, step s = .next t ∧ t.uop = s.uop ∧ t.handle = s.handle ∧ SameHost s t ∧ SameLatches s t ∧
      SameControl s t ∧ t.lastrx = s.lastrx ∧ t.tx = s.tx ∧ t.rx = s.rx ∧ t.trace = s.trace ∧
      t.opens = s.opens ∧ t.reads = s.reads)

/-- A run that would exceed a finite ACC_MAX is refused by name (92 D11, 93 U5; the refusal is the model's
choice that D11 names). -/
def Obligations.AccumulatorBound : Prop :=
  ∀ (s : State) (m : Nat) (bs : List Byte), s.fsm = .draining → s.mode = .rawFrame →
    s.uop = some (readRequest s.params.rxChunk (rawTimeout s)) → PortHeld s → intrusion s = none →
    s.params.accMax = some m → Chunk s bs → readAnswer s = .data bs → m < s.acc.length + bs.length →
    step s = .refused .accumulatorFull

/-! ## Whole operations -/

/-- RESET and COMMAND complete acknowledged: if the line acknowledges attempt k after k - 1 unacknowledged
ones, k at most MAX_ATTEMPTS, the operation runs to Success with ATTEMPT k, the byte CTRL on the line k
times, k - 1 delays, and the result for an acknowledgment (42_handshake R131, R132, R147 (b), (c)). -/
def Obligations.HandshakeAcknowledged : Prop :=
  ∀ (s : State) (i : Instr) (port : PortConfig) (ctrl : Byte) (yes no : Result) (rs rest : List ReadOutcome)
    (os : List OpenAnswer) (ws : List WriteAnswer),
    HandshakeOp i port ctrl yes no → port.dataBits = .eight → s.handle = .closed → s.host = [] →
    rs.length + 1 ≤ s.params.maxAttempts → (∀ r ∈ rs, Retried s r) →
    s.opens = .ok :: os → s.writes = List.replicate (rs.length + 1) .ok ++ ws →
    s.reads = rs ++ .data [0x00#8] :: rest →
    ∃ t u, exec i s = .next t ∧ run (3 * (rs.length + 1) + 1) t = .next u ∧
      u.fsm = .success ∧ u.attempt = rs.length + 1 ∧ u.outcome = some .acknowledged ∧ u.result = yes ∧
      u.done = true ∧ AtRest u ∧ u.tx = s.tx ++ List.replicate (rs.length + 1) ctrl ∧ u.reads = rest ∧
      u.trace = handshakeEvents port ctrl s.params.retryDelayMs rs ++
        [.evWrite [ctrl] .ok, .evRead 1 port.readTimeout (.data [0x00#8]), .evClose]

/-- RESET and COMMAND complete without an acknowledgment: if every one of MAX_ATTEMPTS attempts is
unacknowledged, the operation runs to Failure with ATTEMPT at the maximum, one delay fewer than attempts, the
outcome of the last read, and the result for no acknowledgment (42_handshake R141, R147 (b), (e)). -/
def Obligations.HandshakeExhausted : Prop :=
  ∀ (s : State) (i : Instr) (port : PortConfig) (ctrl : Byte) (yes no : Result) (rs rest : List ReadOutcome)
    (last : ReadOutcome) (os : List OpenAnswer) (ws : List WriteAnswer),
    HandshakeOp i port ctrl yes no → port.dataBits = .eight → s.handle = .closed → s.host = [] →
    rs.length + 1 = s.params.maxAttempts → (∀ r ∈ rs, Retried s r) → Unacknowledged last →
    s.opens = .ok :: os → s.writes = List.replicate (rs.length + 1) .ok ++ ws →
    s.reads = rs ++ last :: rest →
    ∃ t u, exec i s = .next t ∧ run (3 * (rs.length + 1) + 1) t = .next u ∧
      u.fsm = .failure ∧ u.attempt = s.params.maxAttempts ∧ u.result = no ∧ u.done = true ∧ AtRest u ∧
      u.outcome = some (if bytesOf last = [] then .timedOut else .notAcknowledged (bytesOf last)) ∧
      u.tx = s.tx ++ List.replicate (rs.length + 1) ctrl ∧
      u.trace = handshakeEvents port ctrl s.params.retryDelayMs rs ++
        [.evWrite [ctrl] .ok, .evRead 1 port.readTimeout (clipRead 1 last), .evClose]

/-- The handshake always terminates, for every answer of the line to every read: within MAX_ATTEMPTS writes,
as many reads, one delay fewer, an open and a close (42_handshake R147 (a), (d)). -/
def Obligations.HandshakeTerminates : Prop :=
  ∀ (s : State) (i : Instr) (port : PortConfig) (ctrl : Byte) (yes no : Result),
    HandshakeOp i port ctrl yes no → port.dataBits = .eight → s.handle = .closed → s.host = [] →
    1 ≤ s.params.maxAttempts → LineAnswers s →
    ∃ t, exec i s = .next t ∧ ∃ n u, n ≤ 3 * s.params.maxAttempts + 1 ∧ run n t = .next u ∧
      u.done = true ∧ AtRest u ∧ u.attempt ≤ s.params.maxAttempts ∧
      (u.attempt = 0 ↔ ∃ c, u.error = some (.portOpenError port.id c))

/-- What every finished run of a handshake satisfies, for every answer of the line (42_handshake R141, R143, R147 (a),
(b), (c)): the shape of the trace, in which every attempt but the last is an unacknowledged one followed by a delay, a
non-ACK byte among them only if ABORT_ON_NONACK is false (log 17), the count in ATTEMPT, Success exactly when the last
read gave 0x00, and no giving up before the budget is spent. -/
def Obligations.HandshakeTrace : Prop :=
  ∀ (s t u : State) (i : Instr) (port : PortConfig) (ctrl : Byte) (yes no : Result) (k : Nat),
    HandshakeOp i port ctrl yes no → s.handle = .closed → s.host = [] → 1 ≤ s.params.maxAttempts →
    exec i s = .next t → run k t = .next u → u.done = true →
    (∃ c, u.trace = [.evOpen port (.err c)] ∧ u.attempt = 0 ∧ u.fsm = .failure) ∨
    ∃ (rs : List ReadOutcome) (last : List Event),
      u.trace = handshakeEvents port ctrl s.params.retryDelayMs rs ++ last ++ [.evClose] ∧
      (∀ r ∈ rs, r = .timedOut ∨ s.params.abortOnNonack = false ∧ ∃ b, b ≠ 0x00#8 ∧ r = .data [b]) ∧
      u.attempt = rs.length + 1 ∧ u.attempt ≤ s.params.maxAttempts ∧
      ((∃ c, last = [.evWrite [ctrl] (.err c)] ∧ u.fsm = .failure) ∨
        ∃ r, last = [.evWrite [ctrl] .ok, .evRead 1 port.readTimeout r] ∧
          (u.fsm = .success ↔ r = .data [0x00#8]) ∧
          (r = .timedOut → u.attempt = s.params.maxAttempts) ∧
          (∀ b : Byte, b ≠ 0x00#8 → r = .data [b] →
            u.attempt = s.params.maxAttempts ∨ s.params.abortOnNonack = true))

/-- RAWSEND completes when the line falls silent: the frame is written once, every chunk is collected in
order, and all the bytes are the result, none of them interpreted (43_rawsend R160, R164, R166, R168, R172). -/
def Obligations.RawsendDrains : Prop :=
  ∀ (s : State) (port : PortConfig) (payload : List Byte) (rto : Option Nat) (chunks : List (List Byte))
    (rest : List ReadOutcome) (os : List OpenAnswer) (ws : List WriteAnswer),
    port.dataBits = .eight → s.handle = .closed → s.host = [] →
    Fits s payload.length chunks.flatten.length → 1 ≤ s.params.rxChunk →
    (∀ bs ∈ chunks, Chunk s bs) → s.opens = .ok :: os → s.writes = .ok :: ws →
    s.reads = chunks.map .data ++ .timedOut :: rest →
    ∃ t u, exec (.rawsend port payload rto none) s = .next t ∧ run (chunks.length + 4) t = .next u ∧
      u.fsm = .success ∧ u.done = true ∧ AtRest u ∧ u.attempt = 0 ∧ u.outcome = none ∧
      u.acc = chunks.flatten ∧ u.result = .bytes { raw := chunks.flatten, count := chunks.flatten.length } ∧
      u.tx = s.tx ++ payload ++ [BitVec.ofNat 8 (byteSum payload)] ∧ u.reads = rest ∧
      u.trace = [.evOpen port .ok, .evWrite (buildFrame payload) .ok] ++
        chunks.map (fun bs => .evRead s.params.rxChunk (rawsendTimeout port rto) (.data bs)) ++
        [.evRead s.params.rxChunk (rawsendTimeout port rto) .timedOut, .evClose]

/-- RAWSEND completes when the threshold is met: reading stops at once, the rest of the line's answers stays
unread, and bytes beyond the threshold are returned too (43_rawsend R164, R167 (a), (b), (c)). -/
def Obligations.RawsendThreshold : Prop :=
  ∀ (s : State) (port : PortConfig) (payload : List Byte) (rto : Option Nat) (n : Nat)
    (chunks : List (List Byte)) (rest : List ReadOutcome) (os : List OpenAnswer) (ws : List WriteAnswer),
    port.dataBits = .eight → s.handle = .closed → s.host = [] →
    Fits s payload.length chunks.flatten.length →
    (∀ bs ∈ chunks, Chunk s bs) → n ≤ chunks.flatten.length →
    (chunks ≠ [] → chunks.dropLast.flatten.length < n) →
    s.opens = .ok :: os → s.writes = .ok :: ws → s.reads = chunks.map .data ++ rest →
    ∃ t u, exec (.rawsend port payload rto (some n)) s = .next t ∧ run (chunks.length + 3) t = .next u ∧
      u.fsm = .success ∧ u.done = true ∧ AtRest u ∧ u.acc = chunks.flatten ∧
      u.result = .bytes { raw := chunks.flatten, count := chunks.flatten.length } ∧ u.reads = rest ∧
      u.trace = [.evOpen port .ok, .evWrite (buildFrame payload) .ok] ++
        chunks.map (fun bs => .evRead s.params.rxChunk (rawsendTimeout port rto) (.data bs)) ++ [.evClose]

/-- What every finished run of RAWSEND satisfies, for every answer of the line (43_rawsend R162, R172 (a) to (d);
20_memory R62): the shape of the trace, in which no read follows a failed write, ACC as the concatenation of what the
reads returned, and why the collector stopped. -/
def Obligations.RawsendTrace : Prop :=
  ∀ (s t u : State) (port : PortConfig) (payload : List Byte) (rto explen : Option Nat) (k : Nat),
    s.handle = .closed → s.host = [] → exec (.rawsend port payload rto explen) s = .next t →
    run k t = .next u → u.done = true →
    (∃ c, u.trace = [.evOpen port (.err c)] ∧ u.fsm = .failure) ∨
    ∃ (w : IoResult) (rs : List ReadOutcome),
      u.trace = [.evOpen port .ok, .evWrite (payload ++ [BitVec.ofNat 8 (byteSum payload)]) w] ++
        rs.map (.evRead s.params.rxChunk (rawsendTimeout port rto)) ++ [.evClose] ∧
      (∀ c, w = .err c → rs = [] ∧ u.fsm = .failure) ∧
      (∀ r ∈ rs.dropLast, bytesOf r ≠ []) ∧
      (u.fsm = .success →
        w = .ok ∧ u.acc = rs.flatMap bytesOf ∧
        (rs.getLast? = some .timedOut ∨
          ∃ n, explen = some n ∧ n ≤ u.acc.length ∧ (1 ≤ n → (rs.dropLast.flatMap bytesOf).length < n)))

/-! ## Invariants and whole-machine rules -/

/-- The invariant holds after reset. -/
def Obligations.InvariantAtReset : Prop := EngineInv State.reset

/-- Every step keeps the invariant: what each state of the FSM implies of the request, the port, the mode and
the counter (10_state R24, R26, R34; 42_handshake R134 to R142; 43_rawsend R161 to R166). -/
def Obligations.InvariantStep : Prop :=
  ∀ s t : State, EngineInv s → step s = .next t → EngineInv t

/-- No step from a state that meets the invariant stops with a fault: no primitive is issued against its
`require`, and no answer falls outside the transitions (41_transport R111, R113, R115, R119; 60_exceptions R201). -/
def Obligations.NoFault : Prop :=
  ∀ (s : State) (f : Fault), EngineInv s → step s ≠ .fault f

/-- The handle never leaks past the owning call: a result is valid only with the port closed, and a block
that waits has it closed (10_state R34, 41_transport R122). -/
def Obligations.HandleReleased : Prop :=
  ∀ s t : State, EngineInv s → step s = .next t →
    (t.done = true → t.handle = .closed) ∧ (t.uop = none → t.handle = .closed)

/-- A PortConfig is immutable once the port is opened with it (10_state R33): no step changes the
configuration of an open port, which can only be closed; a port is opened by T_OPEN alone, from Closed; and no
step of an invocation in progress writes a latch, the mode, the control byte or the frame. -/
def Obligations.ConfigImmutable : Prop :=
  (∀ (s t : State) (cfg : PortConfig), step s = .next t → s.handle = .opened cfg →
    t.handle = .opened cfg ∨ t.handle = .closed) ∧
  (∀ (s t : State) (cfg : PortConfig), step s = .next t → s.handle = .closed → t.handle = .opened cfg →
    ∃ u, s.uop = some u ∧ decode (.uop u) = .ok (.tOpen cfg)) ∧
  (∀ s t : State, s.uop ≠ none → step s = .next t →
    SameLatches s t ∧ t.mode = s.mode ∧ t.ctrl = s.ctrl ∧ t.txf = s.txf)

/-- TX is append-only and RX is consumed in order: what has been transmitted or received is never changed, by
any step of any kind (20_memory R50, R59). -/
def Obligations.StreamsAppendOnly : Prop :=
  ∀ s t : State, step s = .next t → s.tx <+: t.tx ∧ s.rx <+: t.rx

/-- No step changes the parameters (10_state R40), and no step of an invocation in progress takes anything
from the host (20_memory R64). -/
def Obligations.ParametersConstant : Prop :=
  ∀ s t : State, step s = .next t → t.params = s.params ∧ (s.uop ≠ none → t.host = s.host)

/-- The bytes that the peripheral sees are those of the trace's writes: a step of an invocation in progress
extends the trace by at most one event, and TX by the bytes of a write answered Ok, by a prefix of them on an
error, and by nothing otherwise (10_state R39). -/
def Obligations.TraceMatchesLine : Prop :=
  ∀ s t : State, s.uop ≠ none → step s = .next t →
    (t.trace = s.trace ∧ t.tx = s.tx) ∨
    ∃ e, t.trace = s.trace ++ [e] ∧
      (∀ bs, e = .evWrite bs .ok → t.tx = s.tx ++ bs) ∧
      (∀ bs c, e = .evWrite bs (.err c) → ∃ p, p <+: bs ∧ t.tx = s.tx ++ p) ∧
      ((∀ bs r, e ≠ .evWrite bs r) → t.tx = s.tx)

/-- In raw-frame mode the FSM never takes AwaitingAck or Retry, no attempt is counted, no delay is requested,
and no write follows the frame's (43_rawsend R163, R168, R162). -/
def Obligations.RawModeHasNoRetry : Prop :=
  ∀ s t : State, EngineInv s → s.uop ≠ none → s.mode = .rawFrame → step s = .next t →
    t.fsm ≠ .awaitingAck ∧ t.fsm ≠ .retry ∧ t.attempt = s.attempt ∧
    (s.fsm ≠ .idle → t.fsm = .sending → t.uop = s.uop ∧ t.tx = s.tx) ∧
    (∀ ms, t.uop ≠ some (delayRequest ms))

/-- The condition flags are functions of OUTCOME and LASTRX (10_state R38). STATUS shows them, DONE, the code of
the FSM state and ATTEMPT; OUTCOME its tag and the byte of NotAcknowledged; ERRCODE the number of the error; ACC_COUNT
and the two parameters their values, where R79 puts them (30_encoding R79, R80; 60_exceptions R191; the packing is the
spec's own, decisions D16 and D17). Values too large for their registers are left out (log 24, log 25). -/
def Obligations.StatusRegister : Prop :=
  ∀ s : State,
    (acked s = true ↔ s.outcome = some .acknowledged) ∧
    (lastTimeout s = true ↔ s.lastrx = some .timedOut) ∧
    (lastNonack s = true ↔ ∃ bs, s.lastrx = some (.data bs) ∧ bs ≠ [0x00#8]) ∧
    ((statusWord s).extractLsb' 0 3 = match s.fsm with
      | .idle => 0#3 | .sending => 1#3 | .awaitingAck => 2#3 | .retry => 3#3 | .draining => 4#3
      | .success => 5#3 | .failure => 6#3) ∧
    (statusWord s).getLsbD 3 = s.done ∧
    (statusWord s).getLsbD 4 = acked s ∧ (statusWord s).getLsbD 5 = lastTimeout s ∧
    (statusWord s).getLsbD 6 = lastNonack s ∧ (statusWord s).getLsbD 7 = false ∧
    (s.attempt < 256 → ((statusWord s).extractLsb' 8 8).toNat = s.attempt) ∧
    ((outcomeWord s).extractLsb' 0 3 = match s.outcome with
      | none => 0#3 | some .acknowledged => 1#3 | some (.notAcknowledged _) => 2#3 | some .timedOut => 3#3
      | some (.transportError _) => 4#3) ∧
    (∀ b, s.outcome = some (.notAcknowledged [b]) → (outcomeWord s).extractLsb' 8 8 = b) ∧
    (errorCode s = match s.error with
      | none => 0#4 | some (.portOpenError _ _) => 1#4 | some (.writeError _ _) => 2#4
      | some (.readError _ _) => 3#4 | some .bridgeConnectError => 4#4 | some .noResponse => 5#4
      | some (.bridgeError _) => 6#4) ∧
    (s.acc.length < 2 ^ 32 → (accCount s).toNat = s.acc.length) ∧
    (s.params.maxAttempts < 256 → (maxAttemptsRegister s).toNat = s.params.maxAttempts) ∧
    (s.params.retryDelayMs < 2 ^ 32 → (retryDelayRegister s).toNat = s.params.retryDelayMs)

/-- The contract of the excluded bridge (44_bridge R176 to R181): the command goes out without the white space at its
ends and with one newline; empty lines are skipped and the others joined by one newline; a failed connection is
BridgeConnectError, a failed write and an I/O error before any data BridgeError, nothing received NoResponse, and
after any line the rest is a reply. Which characters are white space, and a reply of empty lines only, are the model's
(log 13). -/
def Obligations.BridgeContract : Prop :=
  (∀ t : Text, ∃ front back trimmed : Text, bridgeOutbound t = trimmed ++ Config.newline ∧
    t = front ++ trimmed ++ back ∧ (∀ c ∈ front ++ back, c.isWhitespace = true) ∧
    (∀ c, trimmed.head? = some c → c.isWhitespace = false) ∧
    (∀ c, trimmed.getLast? = some c → c.isWhitespace = false)) ∧
  (bridgeJoin [] = [] ∧ (∀ l, bridgeJoin [l] = l) ∧
    ∀ a b : List Text, a ≠ [] → b ≠ [] → bridgeJoin (a ++ b) = bridgeJoin a ++ Config.newline ++ bridgeJoin b) ∧
  (∀ (c : Option Cause) (lines : List Text) (stop : BridgeStop),
    bridgeSend { connected := false, writeFailure := c, lines := lines, stop := stop }
      = .error .bridgeConnectError) ∧
  (∀ (c : Cause) (lines : List Text) (stop : BridgeStop),
    bridgeSend { connected := true, writeFailure := some c, lines := lines, stop := stop }
      = .error (.bridgeError c)) ∧
  (∀ stop : BridgeStop, stop = .endOfStream ∨ stop = .timedOut →
    bridgeSend { connected := true, writeFailure := none, lines := [], stop := stop } = .error .noResponse) ∧
  (∀ c : Cause,
    bridgeSend { connected := true, writeFailure := none, lines := [], stop := .ioError c }
      = .error (.bridgeError c)) ∧
  (∀ (lines : List Text) (stop : BridgeStop), lines ≠ [] →
    bridgeSend { connected := true, writeFailure := none, lines := lines, stop := stop }
      = .reply (lines.filter (fun l => decide (l ≠ []))))
end

