-- ==== Sys2Proof/Laws/Frame.lean ====
section
/-! SUPPORT. One lemma per codec function. -/

namespace Sys2Proof.Machine

@[simp] theorem byteSum_nil : byteSum [] = 0 := rfl

@[simp] theorem byteSum_cons (b : Byte) (bs : List Byte) : byteSum (b :: bs) = b.toNat + byteSum bs := rfl

theorem byteSum_append (a b : List Byte) : byteSum (a ++ b) = byteSum a + byteSum b := by
  induction a with
  | nil => simp
  | cons x a ih => simp [ih, Nat.add_assoc]

/-- The accumulator from any start: the start and the bytes, mod 2 ^ w. -/
theorem foldl_accumulate (w : Nat) (bs : List Byte) (n : Nat) :
    bs.foldl (accumulate w) n % 2 ^ w = (n + byteSum bs) % 2 ^ w := by
  induction bs generalizing n with
  | nil => simp
  | cons b bs ih => simp [ih, accumulate, Nat.add_assoc]

/-- One step more makes the last value one of the accumulator's, hence already reduced. -/
theorem runningSum_lt (w : Nat) (bs : List Byte) : runningSum w bs < 2 ^ w := by
  have step : ∀ (l : List Byte) (n : Nat), n < 2 ^ w → l.foldl (accumulate w) n < 2 ^ w := by
    intro l
    induction l with
    | nil => exact fun n h => h
    | cons b l ih => exact fun n _ => ih _ (Nat.mod_lt _ (Nat.two_pow_pos w))
  exact step bs 0 (Nat.two_pow_pos w)

@[simp] theorem buildFrame_length (b : List Byte) : (buildFrame b).length = b.length + 1 := by
  simp [buildFrame]

theorem buildFrame_ne_nil (b : List Byte) : buildFrame b ≠ [] := by simp [buildFrame]

theorem isAck_iff (bs : List Byte) : isAck bs = true ↔ bs = [0x00#8] := by
  match bs with
  | [] => simp [isAck]
  | [b] => simp [isAck, Config.ackByte]
  | _ :: _ :: _ => simp [isAck]

end Sys2Proof.Machine
end

