-- ==== Sys2Proof/Laws/State.lean ====
section
/-! SUPPORT. Each named update of the state, field by field: what it writes and what it leaves. -/

namespace Sys2Proof.Machine

/-! ### State.emit -/

@[simp] theorem State.emit_params (s : State) (e : Event) : (s.emit e).params = s.params := rfl
@[simp] theorem State.emit_host (s : State) (e : Event) : (s.emit e).host = s.host := rfl
@[simp] theorem State.emit_op (s : State) (e : Event) : (s.emit e).op = s.op := rfl
@[simp] theorem State.emit_addr (s : State) (e : Event) : (s.emit e).addr = s.addr := rfl
@[simp] theorem State.emit_opc (s : State) (e : Event) : (s.emit e).opc = s.opc := rfl
@[simp] theorem State.emit_payload (s : State) (e : Event) : (s.emit e).payload = s.payload := rfl
@[simp] theorem State.emit_rto (s : State) (e : Event) : (s.emit e).rto = s.rto := rfl
@[simp] theorem State.emit_explen (s : State) (e : Event) : (s.emit e).explen = s.explen := rfl
@[simp] theorem State.emit_bytes (s : State) (e : Event) : (s.emit e).bytes = s.bytes := rfl
@[simp] theorem State.emit_port (s : State) (e : Event) : (s.emit e).port = s.port := rfl
@[simp] theorem State.emit_fsm (s : State) (e : Event) : (s.emit e).fsm = s.fsm := rfl
@[simp] theorem State.emit_mode (s : State) (e : Event) : (s.emit e).mode = s.mode := rfl
@[simp] theorem State.emit_attempt (s : State) (e : Event) : (s.emit e).attempt = s.attempt := rfl
@[simp] theorem State.emit_ctrl (s : State) (e : Event) : (s.emit e).ctrl = s.ctrl := rfl
@[simp] theorem State.emit_txf (s : State) (e : Event) : (s.emit e).txf = s.txf := rfl
@[simp] theorem State.emit_sum (s : State) (e : Event) : (s.emit e).sum = s.sum := rfl
@[simp] theorem State.emit_chk (s : State) (e : Event) : (s.emit e).chk = s.chk := rfl
@[simp] theorem State.emit_lastrx (s : State) (e : Event) : (s.emit e).lastrx = s.lastrx := rfl
@[simp] theorem State.emit_acc (s : State) (e : Event) : (s.emit e).acc = s.acc := rfl
@[simp] theorem State.emit_handle (s : State) (e : Event) : (s.emit e).handle = s.handle := rfl
@[simp] theorem State.emit_outcome (s : State) (e : Event) : (s.emit e).outcome = s.outcome := rfl
@[simp] theorem State.emit_error (s : State) (e : Event) : (s.emit e).error = s.error := rfl
@[simp] theorem State.emit_result (s : State) (e : Event) : (s.emit e).result = s.result := rfl
@[simp] theorem State.emit_done (s : State) (e : Event) : (s.emit e).done = s.done := rfl
@[simp] theorem State.emit_uop (s : State) (e : Event) : (s.emit e).uop = s.uop := rfl
@[simp] theorem State.emit_ret (s : State) (e : Event) : (s.emit e).ret = s.ret := rfl
@[simp] theorem State.emit_trace (s : State) (e : Event) : (s.emit e).trace = s.trace ++ [e] := rfl
@[simp] theorem State.emit_tx (s : State) (e : Event) : (s.emit e).tx = s.tx := rfl
@[simp] theorem State.emit_rx (s : State) (e : Event) : (s.emit e).rx = s.rx := rfl
@[simp] theorem State.emit_opens (s : State) (e : Event) : (s.emit e).opens = s.opens := rfl
@[simp] theorem State.emit_writes (s : State) (e : Event) : (s.emit e).writes = s.writes := rfl
@[simp] theorem State.emit_reads (s : State) (e : Event) : (s.emit e).reads = s.reads := rfl
@[simp] theorem State.emit_tick (s : State) (e : Event) : (s.emit e).tick = s.tick := rfl

/-! ### State.request -/

@[simp] theorem State.request_params (s : State) (u : UopRegs) : (s.request u).params = s.params := rfl
@[simp] theorem State.request_host (s : State) (u : UopRegs) : (s.request u).host = s.host := rfl
@[simp] theorem State.request_op (s : State) (u : UopRegs) : (s.request u).op = s.op := rfl
@[simp] theorem State.request_addr (s : State) (u : UopRegs) : (s.request u).addr = s.addr := rfl
@[simp] theorem State.request_opc (s : State) (u : UopRegs) : (s.request u).opc = s.opc := rfl
@[simp] theorem State.request_payload (s : State) (u : UopRegs) : (s.request u).payload = s.payload := rfl
@[simp] theorem State.request_rto (s : State) (u : UopRegs) : (s.request u).rto = s.rto := rfl
@[simp] theorem State.request_explen (s : State) (u : UopRegs) : (s.request u).explen = s.explen := rfl
@[simp] theorem State.request_bytes (s : State) (u : UopRegs) : (s.request u).bytes = s.bytes := rfl
@[simp] theorem State.request_port (s : State) (u : UopRegs) : (s.request u).port = s.port := rfl
@[simp] theorem State.request_fsm (s : State) (u : UopRegs) : (s.request u).fsm = s.fsm := rfl
@[simp] theorem State.request_mode (s : State) (u : UopRegs) : (s.request u).mode = s.mode := rfl
@[simp] theorem State.request_attempt (s : State) (u : UopRegs) : (s.request u).attempt = s.attempt := rfl
@[simp] theorem State.request_ctrl (s : State) (u : UopRegs) : (s.request u).ctrl = s.ctrl := rfl
@[simp] theorem State.request_txf (s : State) (u : UopRegs) : (s.request u).txf = s.txf := rfl
@[simp] theorem State.request_sum (s : State) (u : UopRegs) : (s.request u).sum = s.sum := rfl
@[simp] theorem State.request_chk (s : State) (u : UopRegs) : (s.request u).chk = s.chk := rfl
@[simp] theorem State.request_lastrx (s : State) (u : UopRegs) : (s.request u).lastrx = s.lastrx := rfl
@[simp] theorem State.request_acc (s : State) (u : UopRegs) : (s.request u).acc = s.acc := rfl
@[simp] theorem State.request_handle (s : State) (u : UopRegs) : (s.request u).handle = s.handle := rfl
@[simp] theorem State.request_outcome (s : State) (u : UopRegs) : (s.request u).outcome = s.outcome := rfl
@[simp] theorem State.request_error (s : State) (u : UopRegs) : (s.request u).error = s.error := rfl
@[simp] theorem State.request_result (s : State) (u : UopRegs) : (s.request u).result = s.result := rfl
@[simp] theorem State.request_done (s : State) (u : UopRegs) : (s.request u).done = s.done := rfl
@[simp] theorem State.request_uop (s : State) (u : UopRegs) : (s.request u).uop = some u := rfl
@[simp] theorem State.request_ret (s : State) (u : UopRegs) : (s.request u).ret = s.ret := rfl
@[simp] theorem State.request_trace (s : State) (u : UopRegs) : (s.request u).trace = s.trace := rfl
@[simp] theorem State.request_tx (s : State) (u : UopRegs) : (s.request u).tx = s.tx := rfl
@[simp] theorem State.request_rx (s : State) (u : UopRegs) : (s.request u).rx = s.rx := rfl
@[simp] theorem State.request_opens (s : State) (u : UopRegs) : (s.request u).opens = s.opens := rfl
@[simp] theorem State.request_writes (s : State) (u : UopRegs) : (s.request u).writes = s.writes := rfl
@[simp] theorem State.request_reads (s : State) (u : UopRegs) : (s.request u).reads = s.reads := rfl
@[simp] theorem State.request_tick (s : State) (u : UopRegs) : (s.request u).tick = s.tick := rfl

/-! ### State.openAnswered -/

@[simp] theorem State.openAnswered_params (s : State) : s.openAnswered.params = s.params := rfl
@[simp] theorem State.openAnswered_host (s : State) : s.openAnswered.host = s.host := rfl
@[simp] theorem State.openAnswered_op (s : State) : s.openAnswered.op = s.op := rfl
@[simp] theorem State.openAnswered_addr (s : State) : s.openAnswered.addr = s.addr := rfl
@[simp] theorem State.openAnswered_opc (s : State) : s.openAnswered.opc = s.opc := rfl
@[simp] theorem State.openAnswered_payload (s : State) : s.openAnswered.payload = s.payload := rfl
@[simp] theorem State.openAnswered_rto (s : State) : s.openAnswered.rto = s.rto := rfl
@[simp] theorem State.openAnswered_explen (s : State) : s.openAnswered.explen = s.explen := rfl
@[simp] theorem State.openAnswered_bytes (s : State) : s.openAnswered.bytes = s.bytes := rfl
@[simp] theorem State.openAnswered_port (s : State) : s.openAnswered.port = s.port := rfl
@[simp] theorem State.openAnswered_fsm (s : State) : s.openAnswered.fsm = s.fsm := rfl
@[simp] theorem State.openAnswered_mode (s : State) : s.openAnswered.mode = s.mode := rfl
@[simp] theorem State.openAnswered_attempt (s : State) : s.openAnswered.attempt = s.attempt := rfl
@[simp] theorem State.openAnswered_ctrl (s : State) : s.openAnswered.ctrl = s.ctrl := rfl
@[simp] theorem State.openAnswered_txf (s : State) : s.openAnswered.txf = s.txf := rfl
@[simp] theorem State.openAnswered_sum (s : State) : s.openAnswered.sum = s.sum := rfl
@[simp] theorem State.openAnswered_chk (s : State) : s.openAnswered.chk = s.chk := rfl
@[simp] theorem State.openAnswered_lastrx (s : State) : s.openAnswered.lastrx = s.lastrx := rfl
@[simp] theorem State.openAnswered_acc (s : State) : s.openAnswered.acc = s.acc := rfl
@[simp] theorem State.openAnswered_handle (s : State) : s.openAnswered.handle = s.handle := rfl
@[simp] theorem State.openAnswered_outcome (s : State) : s.openAnswered.outcome = s.outcome := rfl
@[simp] theorem State.openAnswered_error (s : State) : s.openAnswered.error = s.error := rfl
@[simp] theorem State.openAnswered_result (s : State) : s.openAnswered.result = s.result := rfl
@[simp] theorem State.openAnswered_done (s : State) : s.openAnswered.done = s.done := rfl
@[simp] theorem State.openAnswered_uop (s : State) : s.openAnswered.uop = s.uop := rfl
@[simp] theorem State.openAnswered_ret (s : State) : s.openAnswered.ret = s.ret := rfl
@[simp] theorem State.openAnswered_trace (s : State) : s.openAnswered.trace = s.trace := rfl
@[simp] theorem State.openAnswered_tx (s : State) : s.openAnswered.tx = s.tx := rfl
@[simp] theorem State.openAnswered_rx (s : State) : s.openAnswered.rx = s.rx := rfl
@[simp] theorem State.openAnswered_opens (s : State) : s.openAnswered.opens = s.opens.tail := rfl
@[simp] theorem State.openAnswered_writes (s : State) : s.openAnswered.writes = s.writes := rfl
@[simp] theorem State.openAnswered_reads (s : State) : s.openAnswered.reads = s.reads := rfl
@[simp] theorem State.openAnswered_tick (s : State) : s.openAnswered.tick = tickAfter s.opens s.tick := rfl

/-! ### State.writeAnswered -/

@[simp] theorem State.writeAnswered_params (s : State) : s.writeAnswered.params = s.params := rfl
@[simp] theorem State.writeAnswered_host (s : State) : s.writeAnswered.host = s.host := rfl
@[simp] theorem State.writeAnswered_op (s : State) : s.writeAnswered.op = s.op := rfl
@[simp] theorem State.writeAnswered_addr (s : State) : s.writeAnswered.addr = s.addr := rfl
@[simp] theorem State.writeAnswered_opc (s : State) : s.writeAnswered.opc = s.opc := rfl
@[simp] theorem State.writeAnswered_payload (s : State) : s.writeAnswered.payload = s.payload := rfl
@[simp] theorem State.writeAnswered_rto (s : State) : s.writeAnswered.rto = s.rto := rfl
@[simp] theorem State.writeAnswered_explen (s : State) : s.writeAnswered.explen = s.explen := rfl
@[simp] theorem State.writeAnswered_bytes (s : State) : s.writeAnswered.bytes = s.bytes := rfl
@[simp] theorem State.writeAnswered_port (s : State) : s.writeAnswered.port = s.port := rfl
@[simp] theorem State.writeAnswered_fsm (s : State) : s.writeAnswered.fsm = s.fsm := rfl
@[simp] theorem State.writeAnswered_mode (s : State) : s.writeAnswered.mode = s.mode := rfl
@[simp] theorem State.writeAnswered_attempt (s : State) : s.writeAnswered.attempt = s.attempt := rfl
@[simp] theorem State.writeAnswered_ctrl (s : State) : s.writeAnswered.ctrl = s.ctrl := rfl
@[simp] theorem State.writeAnswered_txf (s : State) : s.writeAnswered.txf = s.txf := rfl
@[simp] theorem State.writeAnswered_sum (s : State) : s.writeAnswered.sum = s.sum := rfl
@[simp] theorem State.writeAnswered_chk (s : State) : s.writeAnswered.chk = s.chk := rfl
@[simp] theorem State.writeAnswered_lastrx (s : State) : s.writeAnswered.lastrx = s.lastrx := rfl
@[simp] theorem State.writeAnswered_acc (s : State) : s.writeAnswered.acc = s.acc := rfl
@[simp] theorem State.writeAnswered_handle (s : State) : s.writeAnswered.handle = s.handle := rfl
@[simp] theorem State.writeAnswered_outcome (s : State) : s.writeAnswered.outcome = s.outcome := rfl
@[simp] theorem State.writeAnswered_error (s : State) : s.writeAnswered.error = s.error := rfl
@[simp] theorem State.writeAnswered_result (s : State) : s.writeAnswered.result = s.result := rfl
@[simp] theorem State.writeAnswered_done (s : State) : s.writeAnswered.done = s.done := rfl
@[simp] theorem State.writeAnswered_uop (s : State) : s.writeAnswered.uop = s.uop := rfl
@[simp] theorem State.writeAnswered_ret (s : State) : s.writeAnswered.ret = s.ret := rfl
@[simp] theorem State.writeAnswered_trace (s : State) : s.writeAnswered.trace = s.trace := rfl
@[simp] theorem State.writeAnswered_tx (s : State) : s.writeAnswered.tx = s.tx := rfl
@[simp] theorem State.writeAnswered_rx (s : State) : s.writeAnswered.rx = s.rx := rfl
@[simp] theorem State.writeAnswered_opens (s : State) : s.writeAnswered.opens = s.opens := rfl
@[simp] theorem State.writeAnswered_writes (s : State) : s.writeAnswered.writes = s.writes.tail := rfl
@[simp] theorem State.writeAnswered_reads (s : State) : s.writeAnswered.reads = s.reads := rfl
@[simp] theorem State.writeAnswered_tick (s : State) : s.writeAnswered.tick = tickAfter s.writes s.tick := rfl

/-! ### State.readAnswered -/

@[simp] theorem State.readAnswered_params (s : State) (l : List ReadOutcome) : (s.readAnswered l).params = s.params := rfl
@[simp] theorem State.readAnswered_host (s : State) (l : List ReadOutcome) : (s.readAnswered l).host = s.host := rfl
@[simp] theorem State.readAnswered_op (s : State) (l : List ReadOutcome) : (s.readAnswered l).op = s.op := rfl
@[simp] theorem State.readAnswered_addr (s : State) (l : List ReadOutcome) : (s.readAnswered l).addr = s.addr := rfl
@[simp] theorem State.readAnswered_opc (s : State) (l : List ReadOutcome) : (s.readAnswered l).opc = s.opc := rfl
@[simp] theorem State.readAnswered_payload (s : State) (l : List ReadOutcome) : (s.readAnswered l).payload = s.payload := rfl
@[simp] theorem State.readAnswered_rto (s : State) (l : List ReadOutcome) : (s.readAnswered l).rto = s.rto := rfl
@[simp] theorem State.readAnswered_explen (s : State) (l : List ReadOutcome) : (s.readAnswered l).explen = s.explen := rfl
@[simp] theorem State.readAnswered_bytes (s : State) (l : List ReadOutcome) : (s.readAnswered l).bytes = s.bytes := rfl
@[simp] theorem State.readAnswered_port (s : State) (l : List ReadOutcome) : (s.readAnswered l).port = s.port := rfl
@[simp] theorem State.readAnswered_fsm (s : State) (l : List ReadOutcome) : (s.readAnswered l).fsm = s.fsm := rfl
@[simp] theorem State.readAnswered_mode (s : State) (l : List ReadOutcome) : (s.readAnswered l).mode = s.mode := rfl
@[simp] theorem State.readAnswered_attempt (s : State) (l : List ReadOutcome) : (s.readAnswered l).attempt = s.attempt := rfl
@[simp] theorem State.readAnswered_ctrl (s : State) (l : List ReadOutcome) : (s.readAnswered l).ctrl = s.ctrl := rfl
@[simp] theorem State.readAnswered_txf (s : State) (l : List ReadOutcome) : (s.readAnswered l).txf = s.txf := rfl
@[simp] theorem State.readAnswered_sum (s : State) (l : List ReadOutcome) : (s.readAnswered l).sum = s.sum := rfl
@[simp] theorem State.readAnswered_chk (s : State) (l : List ReadOutcome) : (s.readAnswered l).chk = s.chk := rfl
@[simp] theorem State.readAnswered_lastrx (s : State) (l : List ReadOutcome) : (s.readAnswered l).lastrx = s.lastrx := rfl
@[simp] theorem State.readAnswered_acc (s : State) (l : List ReadOutcome) : (s.readAnswered l).acc = s.acc := rfl
@[simp] theorem State.readAnswered_handle (s : State) (l : List ReadOutcome) : (s.readAnswered l).handle = s.handle := rfl
@[simp] theorem State.readAnswered_outcome (s : State) (l : List ReadOutcome) : (s.readAnswered l).outcome = s.outcome := rfl
@[simp] theorem State.readAnswered_error (s : State) (l : List ReadOutcome) : (s.readAnswered l).error = s.error := rfl
@[simp] theorem State.readAnswered_result (s : State) (l : List ReadOutcome) : (s.readAnswered l).result = s.result := rfl
@[simp] theorem State.readAnswered_done (s : State) (l : List ReadOutcome) : (s.readAnswered l).done = s.done := rfl
@[simp] theorem State.readAnswered_uop (s : State) (l : List ReadOutcome) : (s.readAnswered l).uop = s.uop := rfl
@[simp] theorem State.readAnswered_ret (s : State) (l : List ReadOutcome) : (s.readAnswered l).ret = s.ret := rfl
@[simp] theorem State.readAnswered_trace (s : State) (l : List ReadOutcome) : (s.readAnswered l).trace = s.trace := rfl
@[simp] theorem State.readAnswered_tx (s : State) (l : List ReadOutcome) : (s.readAnswered l).tx = s.tx := rfl
@[simp] theorem State.readAnswered_rx (s : State) (l : List ReadOutcome) : (s.readAnswered l).rx = s.rx := rfl
@[simp] theorem State.readAnswered_opens (s : State) (l : List ReadOutcome) : (s.readAnswered l).opens = s.opens := rfl
@[simp] theorem State.readAnswered_writes (s : State) (l : List ReadOutcome) : (s.readAnswered l).writes = s.writes := rfl
@[simp] theorem State.readAnswered_reads (s : State) (l : List ReadOutcome) : (s.readAnswered l).reads = l ++ s.reads.tail := rfl
@[simp] theorem State.readAnswered_tick (s : State) (l : List ReadOutcome) : (s.readAnswered l).tick = tickAfter s.reads s.tick := rfl

/-! ### State.runChecksum -/

@[simp] theorem State.runChecksum_params (s : State) (bs : List Byte) : (s.runChecksum bs).params = s.params := rfl
@[simp] theorem State.runChecksum_host (s : State) (bs : List Byte) : (s.runChecksum bs).host = s.host := rfl
@[simp] theorem State.runChecksum_op (s : State) (bs : List Byte) : (s.runChecksum bs).op = s.op := rfl
@[simp] theorem State.runChecksum_addr (s : State) (bs : List Byte) : (s.runChecksum bs).addr = s.addr := rfl
@[simp] theorem State.runChecksum_opc (s : State) (bs : List Byte) : (s.runChecksum bs).opc = s.opc := rfl
@[simp] theorem State.runChecksum_payload (s : State) (bs : List Byte) : (s.runChecksum bs).payload = s.payload := rfl
@[simp] theorem State.runChecksum_rto (s : State) (bs : List Byte) : (s.runChecksum bs).rto = s.rto := rfl
@[simp] theorem State.runChecksum_explen (s : State) (bs : List Byte) : (s.runChecksum bs).explen = s.explen := rfl
@[simp] theorem State.runChecksum_bytes (s : State) (bs : List Byte) : (s.runChecksum bs).bytes = s.bytes := rfl
@[simp] theorem State.runChecksum_port (s : State) (bs : List Byte) : (s.runChecksum bs).port = s.port := rfl
@[simp] theorem State.runChecksum_fsm (s : State) (bs : List Byte) : (s.runChecksum bs).fsm = s.fsm := rfl
@[simp] theorem State.runChecksum_mode (s : State) (bs : List Byte) : (s.runChecksum bs).mode = s.mode := rfl
@[simp] theorem State.runChecksum_attempt (s : State) (bs : List Byte) : (s.runChecksum bs).attempt = s.attempt := rfl
@[simp] theorem State.runChecksum_ctrl (s : State) (bs : List Byte) : (s.runChecksum bs).ctrl = s.ctrl := rfl
@[simp] theorem State.runChecksum_txf (s : State) (bs : List Byte) : (s.runChecksum bs).txf = s.txf := rfl
@[simp] theorem State.runChecksum_sum (s : State) (bs : List Byte) : (s.runChecksum bs).sum = runningSum s.params.sumWidth bs := rfl
@[simp] theorem State.runChecksum_chk (s : State) (bs : List Byte) : (s.runChecksum bs).chk = BitVec.ofNat 8 (runningSum s.params.sumWidth bs) := rfl
@[simp] theorem State.runChecksum_lastrx (s : State) (bs : List Byte) : (s.runChecksum bs).lastrx = s.lastrx := rfl
@[simp] theorem State.runChecksum_acc (s : State) (bs : List Byte) : (s.runChecksum bs).acc = s.acc := rfl
@[simp] theorem State.runChecksum_handle (s : State) (bs : List Byte) : (s.runChecksum bs).handle = s.handle := rfl
@[simp] theorem State.runChecksum_outcome (s : State) (bs : List Byte) : (s.runChecksum bs).outcome = s.outcome := rfl
@[simp] theorem State.runChecksum_error (s : State) (bs : List Byte) : (s.runChecksum bs).error = s.error := rfl
@[simp] theorem State.runChecksum_result (s : State) (bs : List Byte) : (s.runChecksum bs).result = s.result := rfl
@[simp] theorem State.runChecksum_done (s : State) (bs : List Byte) : (s.runChecksum bs).done = s.done := rfl
@[simp] theorem State.runChecksum_uop (s : State) (bs : List Byte) : (s.runChecksum bs).uop = s.uop := rfl
@[simp] theorem State.runChecksum_ret (s : State) (bs : List Byte) : (s.runChecksum bs).ret = s.ret := rfl
@[simp] theorem State.runChecksum_trace (s : State) (bs : List Byte) : (s.runChecksum bs).trace = s.trace := rfl
@[simp] theorem State.runChecksum_tx (s : State) (bs : List Byte) : (s.runChecksum bs).tx = s.tx := rfl
@[simp] theorem State.runChecksum_rx (s : State) (bs : List Byte) : (s.runChecksum bs).rx = s.rx := rfl
@[simp] theorem State.runChecksum_opens (s : State) (bs : List Byte) : (s.runChecksum bs).opens = s.opens := rfl
@[simp] theorem State.runChecksum_writes (s : State) (bs : List Byte) : (s.runChecksum bs).writes = s.writes := rfl
@[simp] theorem State.runChecksum_reads (s : State) (bs : List Byte) : (s.runChecksum bs).reads = s.reads := rfl
@[simp] theorem State.runChecksum_tick (s : State) (bs : List Byte) : (s.runChecksum bs).tick = s.tick := rfl

/-! ### State.beginInvocation -/

@[simp] theorem State.beginInvocation_params (s : State) (op : Op) (m : Mode) : (s.beginInvocation op m).params = s.params := rfl
@[simp] theorem State.beginInvocation_host (s : State) (op : Op) (m : Mode) : (s.beginInvocation op m).host = s.host := rfl
@[simp] theorem State.beginInvocation_op (s : State) (op : Op) (m : Mode) : (s.beginInvocation op m).op = op := rfl
@[simp] theorem State.beginInvocation_addr (s : State) (op : Op) (m : Mode) : (s.beginInvocation op m).addr = s.addr := rfl
@[simp] theorem State.beginInvocation_opc (s : State) (op : Op) (m : Mode) : (s.beginInvocation op m).opc = s.opc := rfl
@[simp] theorem State.beginInvocation_payload (s : State) (op : Op) (m : Mode) : (s.beginInvocation op m).payload = s.payload := rfl
@[simp] theorem State.beginInvocation_rto (s : State) (op : Op) (m : Mode) : (s.beginInvocation op m).rto = s.rto := rfl
@[simp] theorem State.beginInvocation_explen (s : State) (op : Op) (m : Mode) : (s.beginInvocation op m).explen = s.explen := rfl
@[simp] theorem State.beginInvocation_bytes (s : State) (op : Op) (m : Mode) : (s.beginInvocation op m).bytes = s.bytes := rfl
@[simp] theorem State.beginInvocation_port (s : State) (op : Op) (m : Mode) : (s.beginInvocation op m).port = s.port := rfl
@[simp] theorem State.beginInvocation_fsm (s : State) (op : Op) (m : Mode) : (s.beginInvocation op m).fsm = .idle := rfl
@[simp] theorem State.beginInvocation_mode (s : State) (op : Op) (m : Mode) : (s.beginInvocation op m).mode = m := rfl
@[simp] theorem State.beginInvocation_attempt (s : State) (op : Op) (m : Mode) : (s.beginInvocation op m).attempt = 0 := rfl
@[simp] theorem State.beginInvocation_ctrl (s : State) (op : Op) (m : Mode) : (s.beginInvocation op m).ctrl = 0 := rfl
@[simp] theorem State.beginInvocation_txf (s : State) (op : Op) (m : Mode) : (s.beginInvocation op m).txf = [] := rfl
@[simp] theorem State.beginInvocation_sum (s : State) (op : Op) (m : Mode) : (s.beginInvocation op m).sum = 0 := rfl
@[simp] theorem State.beginInvocation_chk (s : State) (op : Op) (m : Mode) : (s.beginInvocation op m).chk = 0 := rfl
@[simp] theorem State.beginInvocation_lastrx (s : State) (op : Op) (m : Mode) : (s.beginInvocation op m).lastrx = none := rfl
@[simp] theorem State.beginInvocation_acc (s : State) (op : Op) (m : Mode) : (s.beginInvocation op m).acc = [] := rfl
@[simp] theorem State.beginInvocation_handle (s : State) (op : Op) (m : Mode) : (s.beginInvocation op m).handle = s.handle := rfl
@[simp] theorem State.beginInvocation_outcome (s : State) (op : Op) (m : Mode) : (s.beginInvocation op m).outcome = none := rfl
@[simp] theorem State.beginInvocation_error (s : State) (op : Op) (m : Mode) : (s.beginInvocation op m).error = none := rfl
@[simp] theorem State.beginInvocation_result (s : State) (op : Op) (m : Mode) : (s.beginInvocation op m).result = .bool false := rfl
@[simp] theorem State.beginInvocation_done (s : State) (op : Op) (m : Mode) : (s.beginInvocation op m).done = false := rfl
@[simp] theorem State.beginInvocation_uop (s : State) (op : Op) (m : Mode) : (s.beginInvocation op m).uop = none := rfl
@[simp] theorem State.beginInvocation_ret (s : State) (op : Op) (m : Mode) : (s.beginInvocation op m).ret = .nothing := rfl
@[simp] theorem State.beginInvocation_trace (s : State) (op : Op) (m : Mode) : (s.beginInvocation op m).trace = [] := rfl
@[simp] theorem State.beginInvocation_tx (s : State) (op : Op) (m : Mode) : (s.beginInvocation op m).tx = s.tx := rfl
@[simp] theorem State.beginInvocation_rx (s : State) (op : Op) (m : Mode) : (s.beginInvocation op m).rx = s.rx := rfl
@[simp] theorem State.beginInvocation_opens (s : State) (op : Op) (m : Mode) : (s.beginInvocation op m).opens = s.opens := rfl
@[simp] theorem State.beginInvocation_writes (s : State) (op : Op) (m : Mode) : (s.beginInvocation op m).writes = s.writes := rfl
@[simp] theorem State.beginInvocation_reads (s : State) (op : Op) (m : Mode) : (s.beginInvocation op m).reads = s.reads := rfl
@[simp] theorem State.beginInvocation_tick (s : State) (op : Op) (m : Mode) : (s.beginInvocation op m).tick = s.tick := rfl

/-! ### State.deliver -/

@[simp] theorem State.deliver_params (s : State) : s.deliver.params = s.params := rfl
@[simp] theorem State.deliver_host (s : State) : s.deliver.host = s.host := rfl
@[simp] theorem State.deliver_op (s : State) : s.deliver.op = s.op := rfl
@[simp] theorem State.deliver_addr (s : State) : s.deliver.addr = s.addr := rfl
@[simp] theorem State.deliver_opc (s : State) : s.deliver.opc = s.opc := rfl
@[simp] theorem State.deliver_payload (s : State) : s.deliver.payload = s.payload := rfl
@[simp] theorem State.deliver_rto (s : State) : s.deliver.rto = s.rto := rfl
@[simp] theorem State.deliver_explen (s : State) : s.deliver.explen = s.explen := rfl
@[simp] theorem State.deliver_bytes (s : State) : s.deliver.bytes = s.bytes := rfl
@[simp] theorem State.deliver_port (s : State) : s.deliver.port = s.port := rfl
@[simp] theorem State.deliver_fsm (s : State) : s.deliver.fsm = s.fsm := rfl
@[simp] theorem State.deliver_mode (s : State) : s.deliver.mode = s.mode := rfl
@[simp] theorem State.deliver_attempt (s : State) : s.deliver.attempt = s.attempt := rfl
@[simp] theorem State.deliver_ctrl (s : State) : s.deliver.ctrl = s.ctrl := rfl
@[simp] theorem State.deliver_txf (s : State) : s.deliver.txf = s.txf := rfl
@[simp] theorem State.deliver_sum (s : State) : s.deliver.sum = s.sum := rfl
@[simp] theorem State.deliver_chk (s : State) : s.deliver.chk = s.chk := rfl
@[simp] theorem State.deliver_lastrx (s : State) : s.deliver.lastrx = s.lastrx := rfl
@[simp] theorem State.deliver_acc (s : State) : s.deliver.acc = s.acc := rfl
@[simp] theorem State.deliver_handle (s : State) : s.deliver.handle = s.handle := rfl
@[simp] theorem State.deliver_outcome (s : State) : s.deliver.outcome = s.outcome := rfl
@[simp] theorem State.deliver_error (s : State) : s.deliver.error = s.error := rfl
@[simp] theorem State.deliver_result (s : State) : s.deliver.result = finalResult s := rfl
@[simp] theorem State.deliver_done (s : State) : s.deliver.done = true := rfl
@[simp] theorem State.deliver_uop (s : State) : s.deliver.uop = none := rfl
@[simp] theorem State.deliver_ret (s : State) : s.deliver.ret = s.ret := rfl
@[simp] theorem State.deliver_trace (s : State) : s.deliver.trace = s.trace := rfl
@[simp] theorem State.deliver_tx (s : State) : s.deliver.tx = s.tx := rfl
@[simp] theorem State.deliver_rx (s : State) : s.deliver.rx = s.rx := rfl
@[simp] theorem State.deliver_opens (s : State) : s.deliver.opens = s.opens := rfl
@[simp] theorem State.deliver_writes (s : State) : s.deliver.writes = s.writes := rfl
@[simp] theorem State.deliver_reads (s : State) : s.deliver.reads = s.reads := rfl
@[simp] theorem State.deliver_tick (s : State) : s.deliver.tick = s.tick := rfl

/-! ### State.finishCodec -/

@[simp] theorem State.finishCodec_params (s : State) (op : Op) (r : Result) : (s.finishCodec op r).params = s.params := rfl
@[simp] theorem State.finishCodec_host (s : State) (op : Op) (r : Result) : (s.finishCodec op r).host = s.host := rfl
@[simp] theorem State.finishCodec_op (s : State) (op : Op) (r : Result) : (s.finishCodec op r).op = op := rfl
@[simp] theorem State.finishCodec_addr (s : State) (op : Op) (r : Result) : (s.finishCodec op r).addr = s.addr := rfl
@[simp] theorem State.finishCodec_opc (s : State) (op : Op) (r : Result) : (s.finishCodec op r).opc = s.opc := rfl
@[simp] theorem State.finishCodec_payload (s : State) (op : Op) (r : Result) : (s.finishCodec op r).payload = s.payload := rfl
@[simp] theorem State.finishCodec_rto (s : State) (op : Op) (r : Result) : (s.finishCodec op r).rto = s.rto := rfl
@[simp] theorem State.finishCodec_explen (s : State) (op : Op) (r : Result) : (s.finishCodec op r).explen = s.explen := rfl
@[simp] theorem State.finishCodec_bytes (s : State) (op : Op) (r : Result) : (s.finishCodec op r).bytes = s.bytes := rfl
@[simp] theorem State.finishCodec_port (s : State) (op : Op) (r : Result) : (s.finishCodec op r).port = s.port := rfl
@[simp] theorem State.finishCodec_fsm (s : State) (op : Op) (r : Result) : (s.finishCodec op r).fsm = s.fsm := rfl
@[simp] theorem State.finishCodec_mode (s : State) (op : Op) (r : Result) : (s.finishCodec op r).mode = s.mode := rfl
@[simp] theorem State.finishCodec_attempt (s : State) (op : Op) (r : Result) : (s.finishCodec op r).attempt = s.attempt := rfl
@[simp] theorem State.finishCodec_ctrl (s : State) (op : Op) (r : Result) : (s.finishCodec op r).ctrl = s.ctrl := rfl
@[simp] theorem State.finishCodec_txf (s : State) (op : Op) (r : Result) : (s.finishCodec op r).txf = s.txf := rfl
@[simp] theorem State.finishCodec_sum (s : State) (op : Op) (r : Result) : (s.finishCodec op r).sum = s.sum := rfl
@[simp] theorem State.finishCodec_chk (s : State) (op : Op) (r : Result) : (s.finishCodec op r).chk = s.chk := rfl
@[simp] theorem State.finishCodec_lastrx (s : State) (op : Op) (r : Result) : (s.finishCodec op r).lastrx = s.lastrx := rfl
@[simp] theorem State.finishCodec_acc (s : State) (op : Op) (r : Result) : (s.finishCodec op r).acc = s.acc := rfl
@[simp] theorem State.finishCodec_handle (s : State) (op : Op) (r : Result) : (s.finishCodec op r).handle = s.handle := rfl
@[simp] theorem State.finishCodec_outcome (s : State) (op : Op) (r : Result) : (s.finishCodec op r).outcome = s.outcome := rfl
@[simp] theorem State.finishCodec_error (s : State) (op : Op) (r : Result) : (s.finishCodec op r).error = none := rfl
@[simp] theorem State.finishCodec_result (s : State) (op : Op) (r : Result) : (s.finishCodec op r).result = r := rfl
@[simp] theorem State.finishCodec_done (s : State) (op : Op) (r : Result) : (s.finishCodec op r).done = true := rfl
@[simp] theorem State.finishCodec_uop (s : State) (op : Op) (r : Result) : (s.finishCodec op r).uop = s.uop := rfl
@[simp] theorem State.finishCodec_ret (s : State) (op : Op) (r : Result) : (s.finishCodec op r).ret = s.ret := rfl
@[simp] theorem State.finishCodec_trace (s : State) (op : Op) (r : Result) : (s.finishCodec op r).trace = s.trace := rfl
@[simp] theorem State.finishCodec_tx (s : State) (op : Op) (r : Result) : (s.finishCodec op r).tx = s.tx := rfl
@[simp] theorem State.finishCodec_rx (s : State) (op : Op) (r : Result) : (s.finishCodec op r).rx = s.rx := rfl
@[simp] theorem State.finishCodec_opens (s : State) (op : Op) (r : Result) : (s.finishCodec op r).opens = s.opens := rfl
@[simp] theorem State.finishCodec_writes (s : State) (op : Op) (r : Result) : (s.finishCodec op r).writes = s.writes := rfl
@[simp] theorem State.finishCodec_reads (s : State) (op : Op) (r : Result) : (s.finishCodec op r).reads = s.reads := rfl
@[simp] theorem State.finishCodec_tick (s : State) (op : Op) (r : Result) : (s.finishCodec op r).tick = s.tick := rfl

end Sys2Proof.Machine
end

