-- ==== Sys2Proof/Laws/Ops.lean ====
section
/-! SUPPORT. One lemma per shared operation that says everything it can do; callers cite these and do not
unfold the operation. -/

namespace Sys2Proof.Machine

/-! ## Outcomes -/

@[simp] theorem andThen_next (s : State) (f : State → Host.Outcome State Fault Refusal) :
    andThen (.next s) f = f s := rfl

@[simp] theorem andThen_fault (r : Fault) (f : State → Host.Outcome State Fault Refusal) :
    andThen (.fault r) f = .fault r := rfl

@[simp] theorem andThen_refused (r : Refusal) (f : State → Host.Outcome State Fault Refusal) :
    andThen (.refused r) f = .refused r := rfl

/-- A sequence answers a next state only through a next state in between. -/
theorem andThen_eq_next {o : Host.Outcome State Fault Refusal}
    {f : State → Host.Outcome State Fault Refusal} {t : State} (h : andThen o f = .next t) :
    ∃ m, o = .next m ∧ f m = .next t := by
  cases o with
  | next m => exact ⟨m, rfl, h⟩
  | fault r => cases h
  | refused r => cases h

/-! ## The line's answers -/

@[simp] theorem nextAnswer_cons {α : Type} (a : α) (q : List α) (free : Nat → α) (n : Nat) :
    nextAnswer (a :: q) free n = a := rfl

@[simp] theorem tickAfter_cons {α : Type} (a : α) (q : List α) (n : Nat) : tickAfter (a :: q) n = n := rfl

/-- What a read gives: an error, a time-out, or between one byte and the capacity. -/
theorem clipRead_cases (cap : Nat) (a : ReadOutcome) :
    (∃ c, a = .readError c ∧ clipRead cap a = .readError c) ∨ clipRead cap a = .timedOut ∨
      ∃ bs, clipRead cap a = .data bs ∧ 1 ≤ bs.length ∧ bs.length ≤ cap := by
  cases a with
  | readError c => exact .inl ⟨c, rfl, rfl⟩
  | timedOut => exact .inr (.inl rfl)
  | data bs =>
    refine .inr ?_
    cases h : bs.take cap with
    | nil => exact .inl (by simp [clipRead, h])
    | cons b l =>
      refine .inr ⟨b :: l, by simp [clipRead, h], by simp, ?_⟩
      rw [← h, List.length_take]
      exact Nat.min_le_left _ _

/-- Data within the capacity is given as it is, and nothing is left on the line. -/
theorem clipRead_data {cap : Nat} {bs : List Byte} (hne : bs ≠ []) (hle : bs.length ≤ cap) :
    clipRead cap (.data bs) = .data bs ∧ leftOnLine cap (.data bs) = [] := by
  simp [clipRead, leftOnLine, List.take_of_length_le hle, List.drop_of_length_le hle, hne]

@[simp] theorem clipRead_timedOut (cap : Nat) : clipRead cap .timedOut = .timedOut := rfl

@[simp] theorem clipRead_readError (cap : Nat) (c : Cause) : clipRead cap (.readError c) = .readError c := rfl

@[simp] theorem clipRead_nil (cap : Nat) : clipRead cap (.data []) = .timedOut := by simp [clipRead]

/-! ## Release and errors -/

/-- With the port open a release requests the close and does nothing else. -/
theorem release_opened {s : State} {cfg : PortConfig} (h : s.handle = .opened cfg) :
    s.release = s.request closeRequest := by simp [State.release, h]

/-- With the port closed a release delivers the result. -/
theorem release_closed {s : State} (h : s.handle = .closed) : s.release = s.deliver := by
  simp [State.release, h]

/-- An error with the port open: Failure, the error held, the outcome wrapped, the close requested, and every
other field as it was. -/
theorem takeError_opened {s : State} {cfg : PortConfig} (h : s.handle = .opened cfg) (e : ErrorValue) :
    s.takeError e
      = { s with fsm := .failure, outcome := errorOutcome s e, error := some e, uop := some closeRequest } := by
  simp [State.takeError, State.release, h, State.request]

/-- An error with the port closed: Failure, and the error is the result at once. -/
theorem takeError_closed {s : State} (h : s.handle = .closed) (e : ErrorValue) :
    s.takeError e
      = { s with fsm := .failure, outcome := errorOutcome s e, error := some e, uop := none,
                 result := .error e, done := true } := by
  simp [State.takeError, State.release, h, State.deliver, finalResult]

/-! ## The checksum generator -/

/-- What the generator leaves: SUM within its width, and CHK the checksum. -/
theorem runChecksum_spec (s : State) (bs : List Byte) :
    (s.runChecksum bs).sum < 2 ^ s.params.sumWidth ∧
      (s.runChecksum bs).chk = BitVec.ofNat 8 (s.runChecksum bs).sum := by
  exact ⟨runningSum_lt _ _, rfl⟩

/-! ## Requests -/

@[simp] theorem decode_openRequest (cfg : PortConfig) : decodeUop (openRequest cfg) = .ok (.tOpen cfg) := rfl

theorem decode_writeRequest {bs : List Byte} (h : bs ≠ []) :
    decodeUop (writeRequest bs) = .ok (.tWrite bs) := by
  cases bs with
  | nil => exact absurd rfl h
  | cons b l => rfl

theorem decode_readRequest {cap : Nat} (t : Nat) (h : cap ≠ 0) :
    decodeUop (readRequest cap t) = .ok (.tRead cap t) := by simp [decodeUop, readRequest, h]

@[simp] theorem decode_closeRequest : decodeUop closeRequest = .ok .tClose := rfl

@[simp] theorem decode_delayRequest (ms : Nat) : decodeUop (delayRequest ms) = .ok (.delay ms) := rfl

/-! ## The step -/

@[simp] theorem intrusionOn_nil (port : Text) : intrusionOn port [] = none := rfl

@[simp] theorem intrusionOn_invoke (port : Text) (r : HostRegs) (rest : List HostEvent) :
    intrusionOn port (.invoke r :: rest) = none := rfl

/-- Invocations on other ports, and those of codec functions, wait their turn and hide nothing behind them. -/
theorem intrusionOn_append {port : Text} {waiting : List HostEvent}
    (h : ∀ e ∈ waiting, ∃ r, e = .overlap r ∧ samePort port r = false) (rest : List HostEvent) :
    intrusionOn port (waiting ++ rest) = intrusionOn port rest := by
  induction waiting with
  | nil => rfl
  | cons e es ih =>
    obtain ⟨r, rfl, hr⟩ := h e (by simp)
    simpa [intrusionOn, hr] using ih fun e he => h e (by simp [he])

/-- A step with a request outstanding: the primitive and then the engine's transition. -/
theorem step_primitive {s : State} {u : UopRegs} {i : Instr} (hu : s.uop = some u)
    (hi : intrusion s = none) (hd : decodeUop u = .ok i) :
    step s = andThen (exec i { s with uop := none }) advance := by
  simp [step, fetch, hu, hi, fetchPrimitive, hd]

/-- A step with none outstanding and an invocation presented. -/
theorem step_invocation {s : State} {r : HostRegs} {rest : List HostEvent} {i : Instr} (hu : s.uop = none)
    (hh : s.host = .invoke r :: rest) (hd : decodeHost r = .ok i) :
    step s = exec i { s with host := rest } := by
  simp [step, fetch, hu, hh, fetchInvocation, hd]

/-- Every way in which a step answers a next state. -/
theorem step_cases {s t : State} (h : step s = .next t) :
    (∃ u i, s.uop = some u ∧ intrusion s = none ∧ decodeUop u = .ok i ∧
      andThen (exec i { s with uop := none }) advance = .next t) ∨
    (∃ r rest i, s.uop = none ∧ (s.host = .invoke r :: rest ∨ s.host = .overlap r :: rest) ∧
      decodeHost r = .ok i ∧ exec i { s with host := rest } = .next t) ∨
    (s.uop = none ∧ (s.host = [] ∧ t = s ∨ ∃ rest, s.host = .rewrite :: rest ∧ t = { s with host := rest })) := by
  unfold step fetch at h
  cases hu : s.uop with
  | some u =>
    simp only [hu] at h
    cases hi : intrusion s with
    | some r => simp [hi] at h
    | none =>
      simp only [hi, fetchPrimitive] at h
      cases hd : decodeUop u with
      | error e => simp [hd] at h
      | ok i => exact .inl ⟨u, i, rfl, rfl, hd, by simpa [hd] using h⟩
  | none =>
    simp only [hu] at h
    refine .inr ?_
    cases hh : s.host with
    | nil => exact .inr ⟨rfl, .inl ⟨rfl, by simpa [hh] using h.symm⟩⟩
    | cons e rest =>
      cases e with
      | rewrite => exact .inr ⟨rfl, .inr ⟨rest, rfl, by simpa [hh] using h.symm⟩⟩
      | invoke r =>
        simp only [hh, fetchInvocation] at h
        cases hd : decodeHost r with
        | error e => simp [hd] at h
        | ok i => exact .inl ⟨r, rest, i, rfl, .inl rfl, hd, by simpa [hd, hu] using h⟩
      | overlap r =>
        simp only [hh, fetchInvocation] at h
        cases hd : decodeHost r with
        | error e => simp [hd] at h
        | ok i => exact .inl ⟨r, rest, i, rfl, .inr rfl, hd, by simpa [hd, hu] using h⟩

end Sys2Proof.Machine
end

