-- ==== Sys2Proof/Laws/Transport.lean ====
section
/-! SUPPORT. One equation per transport primitive and answer of the line: what it leaves, as one state. -/

namespace Sys2Proof.Machine

/-- An open that the line grants. -/
theorem openPort_ok {s : State} (cfg : PortConfig) (h : openAnswer s = .ok) :
    openPort cfg s
      = { s with opens := s.opens.tail, tick := tickAfter s.opens s.tick, handle := .opened cfg, ret := .ok,
                 trace := s.trace ++ [.evOpen cfg .ok] } := by
  simp [openPort, h, State.emit, State.openAnswered]

/-- An open that the line denies. -/
theorem openPort_err {s : State} (cfg : PortConfig) {c : Cause} (h : openAnswer s = .err c) :
    openPort cfg s
      = { s with opens := s.opens.tail, tick := tickAfter s.opens s.tick, ret := .portOpenError cfg.id c,
                 trace := s.trace ++ [.evOpen cfg (.err c)] } := by
  simp [openPort, h, State.emit, State.openAnswered]

/-- An open that the line has not answered. -/
theorem openPort_hold {s : State} (cfg : PortConfig) (h : openAnswer s = .hold) :
    openPort cfg s
      = { s with opens := s.opens.tail, tick := tickAfter s.opens s.tick, ret := .waiting,
                 uop := some (openRequest cfg) } := by
  simp [openPort, h, State.request, State.openAnswered]

/-- A write that the line takes whole. -/
theorem writeBytes_ok {s : State} (bs : List Byte) (h : writeAnswer s = .ok) :
    writeBytes bs s
      = { s with writes := s.writes.tail, tick := tickAfter s.writes s.tick, tx := s.tx ++ bs, ret := .ok,
                 trace := s.trace ++ [.evWrite bs .ok] } := by
  simp [writeBytes, h, State.emit, State.writeAnswered]

/-- A write that fails after some prefix. -/
theorem writeBytes_err {s : State} (bs : List Byte) {c : Cause} {k : Nat} (h : writeAnswer s = .err c k) :
    writeBytes bs s
      = { s with writes := s.writes.tail, tick := tickAfter s.writes s.tick, tx := s.tx ++ bs.take k,
                 ret := .writeError c, trace := s.trace ++ [.evWrite bs (.err c)] } := by
  simp [writeBytes, h, State.emit, State.writeAnswered]

/-- A write that the line has not answered. -/
theorem writeBytes_hold {s : State} (bs : List Byte) (h : writeAnswer s = .hold) :
    writeBytes bs s
      = { s with writes := s.writes.tail, tick := tickAfter s.writes s.tick, ret := .waiting,
                 uop := some (writeRequest bs) } := by
  simp [writeBytes, h, State.request, State.writeAnswered]

/-- A read, whatever the line answers. -/
theorem readBytes_eq (s : State) (cap timeout : Nat) :
    readBytes cap timeout s
      = { s with
          reads := leftOnLine cap (readAnswer s) ++ s.reads.tail, tick := tickAfter s.reads s.tick,
          lastrx := some (clipRead cap (readAnswer s)),
          rx := s.rx ++ bytesOf (clipRead cap (readAnswer s)), ret := .read (clipRead cap (readAnswer s)),
          trace := s.trace ++ [.evRead cap timeout (clipRead cap (readAnswer s))] } := rfl

/-- T_OPEN with the port closed and 8 data bits runs. -/
theorem execTOpen_runs {s : State} {cfg : PortConfig} (hc : s.handle = .closed) (hd : cfg.dataBits = .eight) :
    exec (.tOpen cfg) s = .next (openPort cfg s) := by
  simp [exec, execTOpen, hc, portRefusal, hd]

/-- T_WRITE with the port open runs. -/
theorem execTWrite_runs {s : State} {cfg : PortConfig} (bs : List Byte) (ho : s.handle = .opened cfg) :
    exec (.tWrite bs) s = .next (writeBytes bs s) := by
  simp [exec, execTWrite, ho]

/-- T_READ with the port open runs. -/
theorem execTRead_runs {s : State} {cfg : PortConfig} (cap t : Nat) (ho : s.handle = .opened cfg) :
    exec (.tRead cap t) s = .next (readBytes cap t s) := by
  simp [exec, execTRead, ho]

/-- T_CLOSE with the port open runs. -/
theorem execTClose_runs {s : State} {cfg : PortConfig} (ho : s.handle = .opened cfg) :
    exec .tClose s = .next { s with handle := .closed, ret := .nothing, trace := s.trace ++ [.evClose] } := by
  simp [exec, execTClose, ho, State.emit]

/-- DELAY always runs. -/
theorem execDelay_runs (s : State) (ms : Nat) :
    exec (.delay ms) s = .next { s with ret := .nothing, trace := s.trace ++ [.evDelay ms] } := rfl

/-- While the line has not answered, the engine does nothing further. -/
theorem advance_waiting {s : State} (h : s.ret = .waiting) : advance s = .next s := by simp [advance, h]

end Sys2Proof.Machine
end

