-- ==== Sys2Proof/Laws/Engine.lean ====
section
/-! SUPPORT. One lemma per transition of the engine: what it leaves, as one state. -/

namespace Sys2Proof.Machine

/-- Exactly when an attempt may be followed by another (42_handshake R140, R143). -/
theorem mayRetry_iff (s : State) :
    mayRetry s = true ↔
      s.attempt < s.params.maxAttempts ∧ (s.params.abortOnNonack = false ∨ lastNonack s = false) := by
  cases h : s.params.abortOnNonack <;> simp [mayRetry, h]

/-- At the maximum no attempt follows. -/
theorem mayRetry_spent {s : State} (h : s.params.maxAttempts ≤ s.attempt) : mayRetry s = false := by
  simp [mayRetry, Nat.not_lt.mpr h]

/-- An unacknowledged attempt that another may follow. -/
theorem unacknowledged_retries {s : State} (r : ReadOutcome) (h : mayRetry s = true) :
    unacknowledged r s = { s with fsm := .retry, uop := some (delayRequest s.params.retryDelayMs) } := by
  simp [unacknowledged, h, enterRetry, State.request]

/-- An unacknowledged attempt that none may follow, with the port open. -/
theorem unacknowledged_fails {s : State} {cfg : PortConfig} (r : ReadOutcome)
    (h : mayRetry s = false) (ho : s.handle = .opened cfg) :
    unacknowledged r s
      = { s with fsm := .failure, outcome := some (exhaustedOutcome r), uop := some closeRequest } := by
  simp [unacknowledged, h, exhaust, State.release, ho, State.request]

/-- An acknowledged attempt, with the port open. -/
theorem acknowledge_eq {s : State} {cfg : PortConfig} (ho : s.handle = .opened cfg) :
    acknowledge s
      = { s with fsm := .success, outcome := some .acknowledged, uop := some closeRequest } := by
  simp [acknowledge, State.release, ho, State.request]

/-- The collector ends, with the port open. -/
theorem finishDrain_eq {s : State} {cfg : PortConfig} (ho : s.handle = .opened cfg) :
    finishDrain s = { s with fsm := .success, uop := some closeRequest } := by
  simp [finishDrain, State.release, ho, State.request]

/-- A turn of the collector with the threshold met, with the port open. -/
theorem drain_stops {s : State} {cfg : PortConfig} (h : thresholdMet s = true) (ho : s.handle = .opened cfg) :
    drain s = { s with fsm := .success, uop := some closeRequest } := by
  simp [drain, h, finishDrain_eq ho]

/-- A turn of the collector with the threshold not met. -/
theorem drain_reads {s : State} (h : thresholdMet s = false) :
    drain s = { s with uop := some (readRequest s.params.rxChunk (rawTimeout s)) } := by
  simp [drain, h, State.request]

/-- What a handshake sends is the control byte alone (30_encoding R74). -/
theorem unitToSend_handshake {s : State} (h : s.mode ≠ .rawFrame) : unitToSend s = [s.ctrl] := by
  cases hm : s.mode with
  | rawFrame => exact absurd hm h
  | reset => simp [unitToSend, hm]
  | command => simp [unitToSend, hm]

/-- What raw-frame mode sends is the frame. -/
theorem unitToSend_rawFrame {s : State} (h : s.mode = .rawFrame) : unitToSend s = s.txf := by
  simp [unitToSend, h]

/-- After a granted open in a handshake: the first attempt. -/
theorem afterOpen_handshake {s : State} (hr : s.ret = .ok) (hm : s.mode ≠ .rawFrame) :
    afterOpen s
      = .next { s with attempt := 1, fsm := .sending, uop := some (writeRequest [s.ctrl]) } := by
  cases h : s.mode with
  | rawFrame => exact absurd h hm
  | reset => simp [afterOpen, hr, h, enterSending, State.request, unitToSend]
  | command => simp [afterOpen, hr, h, enterSending, State.request, unitToSend]

/-- After a granted open in raw-frame mode: the frame. -/
theorem afterOpen_rawFrame {s : State} (hr : s.ret = .ok) (hm : s.mode = .rawFrame) :
    afterOpen s = .next { s with fsm := .sending, uop := some (writeRequest s.txf) } := by
  simp [afterOpen, hr, hm, enterSending, State.request, unitToSend]

/-- After a written control byte: the one read of the attempt. -/
theorem afterWrite_handshake {s : State} (hr : s.ret = .ok) (hm : s.mode ≠ .rawFrame) :
    afterWrite s
      = .next { s with fsm := .awaitingAck, uop := some (readRequest 1 s.port.readTimeout) } := by
  cases h : s.mode with
  | rawFrame => exact absurd h hm
  | reset => simp [afterWrite, hr, h, enterAwaitingAck, State.request]
  | command => simp [afterWrite, hr, h, enterAwaitingAck, State.request]

/-- After a written frame: the collector. -/
theorem afterWrite_rawFrame {s : State} (hr : s.ret = .ok) (hm : s.mode = .rawFrame) :
    afterWrite s = .next (drain { s with fsm := .draining }) := by
  simp [afterWrite, hr, hm, enterDraining]

/-- After the delay: the next attempt, with the same control byte. -/
theorem afterDelay_handshake {s : State} (hm : s.mode ≠ .rawFrame) :
    afterDelay s
      = { s with attempt := s.attempt + 1, fsm := .sending, uop := some (writeRequest [s.ctrl]) } := by
  have h := unitToSend_handshake (s := { s with attempt := s.attempt + 1 }) hm
  simp only [afterDelay, enterSending, State.request, h]

/-- The engine's transition once a primitive has returned something. -/
theorem advance_eq {s : State} (h : s.ret ≠ .waiting) :
    advance s = match s.fsm with
      | .idle => afterOpen s
      | .sending => afterWrite s
      | .awaitingAck =>
        match s.ret with
        | .read r => .next (afterAckRead r s)
        | _ => .fault .outOfSequence
      | .retry =>
        match s.ret with
        | .nothing => .next (afterDelay s)
        | _ => .fault .outOfSequence
      | .draining =>
        match s.ret with
        | .read r => afterDrainRead r s
        | _ => .fault .outOfSequence
      | .success | .failure =>
        match s.ret with
        | .nothing => .next s.deliver
        | _ => .fault .outOfSequence := by
  unfold advance
  refine (if_neg h).trans ?_
  cases s.fsm <;> cases s.ret <;> rfl

end Sys2Proof.Machine
end

