-- ==== Sys2Proof/Laws/PerInstr.lean ====
section
/-! SUPPORT. Statements made per instruction: the request that the encoder makes of an operation carries the
format and the select code of that operation's row (30_encoding R88). -/

namespace Sys2Proof.Laws.SelectCode

/-- The encoded request selects the operation's own row. -/
def Statement (i : Instr) : Prop := (encode i).select = i.select

theorem reset (addr : Byte) (port : PortConfig) : Statement (.reset addr port) := rfl

theorem command (addr : Byte) (opc : Nibble) (port : PortConfig) : Statement (.command addr opc port) := rfl

theorem rawsend (port : PortConfig) (payload : List Byte) (rto explen : Option Nat) :
    Statement (.rawsend port payload rto explen) := rfl

theorem bridge (text : Text) : Statement (.bridge text) := rfl

theorem checksum (bytes : List Byte) : Statement (.checksum bytes) := rfl

theorem buildFrame (bytes : List Byte) : Statement (.buildFrame bytes) := rfl

theorem packCtrl (addr : Byte) (opc : Nibble) : Statement (.packCtrl addr opc) := rfl

theorem isAck (bytes : List Byte) : Statement (.isAck bytes) := rfl

theorem decodeResponse (bytes : List Byte) : Statement (.decodeResponse bytes) := rfl

theorem verifyChecksum (bytes : List Byte) : Statement (.verifyChecksum bytes) := rfl

theorem tOpen (cfg : PortConfig) : Statement (.tOpen cfg) := rfl

theorem tWrite (bytes : List Byte) : Statement (.tWrite bytes) := rfl

theorem tRead (cap timeout : Nat) : Statement (.tRead cap timeout) := rfl

theorem tClose : Statement .tClose := rfl

theorem delay (ms : Nat) : Statement (.delay ms) := rfl

end Sys2Proof.Laws.SelectCode
end

