-- ==== Sys2Proof/Tests/Slice0.lean ====
section
/-! SUPPORT. Small tests whose expected results come from spec/95_test_vectors.md, and for every statement of
Certificates/Slice0/Obligations.lean with hypotheses a witness that meets them together. -/

namespace Sys2Proof.Tests

open Sys2Proof.Machine

/-! ## Helpers -/

/-- The port `P` of 95_test_vectors, section 0. -/
def portP : PortConfig :=
  { id := ['P'], baud := 9600, dataBits := .eight, parity := .none, stopBits := .one, flow := .none,
    readTimeout := 200 }

/-- A port of 7 data bits. -/
def narrowP : PortConfig := { portP with dataBits := .seven }

/-- The machine after reset with the answers that the line will give. -/
def withLine (os : List OpenAnswer) (ws : List WriteAnswer) (rs : List ReadOutcome) : State :=
  { State.reset with opens := os, writes := ws, reads := rs }

/-- The machine after reset with the port open. -/
def opened : State := { State.reset with handle := .opened portP, port := portP }

/-- An invocation in progress: the FSM state, its request, and the port held. -/
def busy (f : Fsm) (m : Mode) (u : UopRegs) : State := { opened with fsm := f, mode := m, uop := some u }

/-- `AwaitingAck` of a RESET of address 0x10 in attempt `k`, with the line's answer to the read. -/
def awaiting (k : Nat) (r : ReadOutcome) : State :=
  { busy .awaitingAck .reset (readRequest 1 200) with attempt := k, ctrl := 0x10, reads := [r] }

/-- `Sending` of a RESET of address 0x10, with the line's answer to the write. -/
def sending (w : WriteAnswer) : State :=
  { busy .sending .reset (writeRequest [0x10]) with attempt := 1, ctrl := 0x10, writes := [w] }

/-- `Idle` with the open requested, with the line's answer to it. -/
def opening (a : OpenAnswer) : State :=
  { State.reset with port := portP, uop := some (openRequest portP), opens := [a] }

/-- `Draining` with the line's answer to the read. -/
def draining (explen : Option Nat) (acc : List Byte) (r : ReadOutcome) : State :=
  { busy .draining .rawFrame (readRequest 8 200) with
    payload := [0x13], txf := [0x13, 0x13], explen := explen, acc := acc, reads := [r] }

/-- The frame of `Sending` in raw-frame mode, with the line's answer to the write. -/
def sendingFrame (explen : Option Nat) (w : WriteAnswer) : State :=
  { busy .sending .rawFrame (writeRequest [0x13, 0x13]) with
    payload := [0x13], txf := [0x13, 0x13], explen := explen, writes := [w] }

/-- A terminal state with the close requested. -/
def closing (f : Fsm) (m : Mode) (o : Option HandshakeOutcome) (e : Option ErrorValue) : State :=
  { busy f m closeRequest with attempt := 1, outcome := o, error := e }

/-- `Retry` of a RESET of address 0x10 after its first attempt. -/
def retrying : State := { busy .retry .reset (delayRequest 200) with attempt := 1, ctrl := 0x10 }

/-- The final state of an operation started in `s` and run for `k` steps. -/
def finished (i : Instr) (k : Nat) (s : State) : Option State := nextState? (andThen (exec i s) (run k))

/-! ## Well-formedness: one term for each check that it refuses -/

theorem test_wf_accepts :
    (Instr.rawsend { portP with baud := 4294967295, readTimeout := 4294967295 } [] (some 2147483647)
      (some 2147483647)).wellFormed = true := by decide

theorem test_wf_baud : (Instr.reset 0x10 { portP with baud := 4294967296 }).wellFormed = false := by decide

theorem test_wf_readTimeout :
    (Instr.command 0x10 3 { portP with readTimeout := 4294967296 }).wellFormed = false := by decide

theorem test_wf_rto : (Instr.rawsend portP [] (some 2147483648) none).wellFormed = false := by decide

theorem test_wf_explen : (Instr.rawsend portP [] none (some 2147483648)).wellFormed = false := by decide

theorem test_wf_emptyWrite : (Instr.tWrite []).wellFormed = false := by decide

theorem test_wf_zeroCapacity : (Instr.tRead 0 200).wellFormed = false := by decide

/-! ## Decoding: words written out from 30_encoding R76 to R79, and 95 V-EN1 to V-EN18 -/

/-- CFG, BAUD and READ_TIMEOUT_MS of program P1. -/
def hostP (op : BitVec 4) : HostRegs :=
  { op := op, cfg := 0b00000011, baud := 0x00002580, readTimeout := some 0x000000C8, portId := ['P'] }

theorem test_decode_reset :
    decode (.host { hostP 0b0000 with addr := 0x10 }) = .ok (.reset 0x10 portP) := by decide

theorem test_decode_command :
    decode (.host { hostP 0b0001 with addr := 0x1F, opc := 0b0011 }) = .ok (.command 0x1F 3 portP) := by decide

/-- V-EN11, V-EN14. -/
theorem test_decode_rawsend :
    decode (.host { hostP 0b0010 with payload := [0x13], rto := 0x80000032, explen := 0x80000004 })
      = .ok (.rawsend portP [0x13] (some 50) (some 4)) := by decide

theorem test_decode_bridge : decode (.host { op := 0b0011, text := ['x'] }) = .ok (.bridge ['x']) := by decide

theorem test_decode_checksum : decode (.host { op := 0b0100, bytes := [0xFF] }) = .ok (.checksum [0xFF]) := by
  decide

theorem test_decode_buildFrame :
    decode (.host { op := 0b0101, bytes := [0xFF] }) = .ok (.buildFrame [0xFF]) := by decide

theorem test_decode_packCtrl :
    decode (.host { op := 0b0110, addr := 0x1F, opc := 0b0011 }) = .ok (.packCtrl 0x1F 3) := by decide

theorem test_decode_isAck : decode (.host { op := 0b0111, bytes := [0x00] }) = .ok (.isAck [0x00]) := by decide

theorem test_decode_decodeResponse :
    decode (.host { op := 0b1000, bytes := [0x00] }) = .ok (.decodeResponse [0x00]) := by decide

theorem test_decode_verifyChecksum :
    decode (.host { op := 0b1001, bytes := [0x00] }) = .ok (.verifyChecksum [0x00]) := by decide

theorem test_decode_tOpen : decode (.uop { code := 0b000, cfg := portP }) = .ok (.tOpen portP) := by decide

theorem test_decode_tWrite : decode (.uop { code := 0b001, bytes := [0x10] }) = .ok (.tWrite [0x10]) := by decide

theorem test_decode_tRead : decode (.uop { code := 0b010, cap := 1, timeout := 200 }) = .ok (.tRead 1 200) := by
  decide

theorem test_decode_tClose : decode (.uop { code := 0b011 }) = .ok .tClose := by decide

theorem test_decode_delay : decode (.uop { code := 0b100, ms := 200 }) = .ok (.delay 200) := by decide

/-- V-EN2: CFG 0x4B, and V-EN8: BAUD 0x0001C200. -/
theorem test_cfg_4B :
    decodePort { op := 0, cfg := 0x4B, baud := 0x0001C200, readTimeout := some 0x000000C8, portId := ['P'] }
      = .ok { portP with baud := 115200, parity := .even, flow := .hardware } := by decide

/-- V-EN3: CFG 0x33. -/
theorem test_cfg_33 :
    decodePort { hostP 0 with cfg := 0x33 } = .ok { portP with stopBits := .two, flow := .software } := by decide

/-- V-EN4: CFG 0x57. -/
theorem test_cfg_57 :
    decodePort { hostP 0 with cfg := 0x57 }
      = .ok { portP with parity := .odd, stopBits := .two, flow := .hardware } := by decide

/-- V-EN5: CFG 0x06 is a legal value of the field. -/
theorem test_cfg_06 :
    decodePort { hostP 0 with cfg := 0x06 } = .ok { portP with dataBits := .seven, parity := .odd } := by decide

/-- V-EN6 and V-EN7: the reserved codes. -/
theorem test_cfg_reserved :
    decodePort { hostP 0 with cfg := 0x0F } = .error .reservedParity ∧
    decodePort { hostP 0 with cfg := 0x63 } = .error .reservedFlow := by decide

/-- A caller that supplies no read time-out (41_transport R118). -/
theorem test_default_timeout : decodePort { hostP 0 with readTimeout := none } = .ok portP := by decide

theorem test_encode_cfg :
    encodeCfg { portP with parity := .even, flow := .hardware } = 0x4B ∧
    encodeOptional (some 4) = 0x80000004 ∧ encodeOptional none = 0 := by decide

/-- The table's rows: a HOSTOP word of four bits or a byte, and a UOP word of three bits (log 8). -/
theorem test_table_words :
    decodeTableWord 4 6 = some (.packCtrl 0 0) ∧ decodeTableWord 8 9 = some (.verifyChecksum []) ∧
    decodeTableWord 3 3 = some .tClose ∧ decodeTableWord 4 10 = none := by decide

/-! ## The codec: 95 sections 2.1 to 2.6 -/

/-- V-CS1 to V-CS4, V-CS6, V-CS7. -/
theorem test_checksum :
    checksum [] = 0x00 ∧ checksum [0xFF] = 0xFF ∧ checksum [0x80, 0x80] = 0x00 ∧ checksum [0xFF, 0x01] = 0x00 ∧
    checksum [0x11, 0x00, 0x03] = 0x14 ∧ checksum [0xFF, 0xFF] = 0xFE := by decide

/-- V-CS20: bytes are unsigned, which SUM shows. -/
theorem test_exec_checksum :
    (nextState? (exec (.checksum [0x80, 0xFF]) State.reset)).map (fun t => (t.result, t.sum, t.chk, t.done))
      = some (.byte 0x7F, 0x17F, 0x7F, true) := by decide

/-- V-BF4. -/
theorem test_exec_buildFrame :
    (nextState? (exec (.buildFrame [0x11, 0x00, 0x03]) State.reset)).map (·.result)
      = some (.frame [0x11, 0x00, 0x03, 0x14]) := by decide

/-- V-BF1. -/
theorem test_buildFrame_empty : buildFrame [] = [0x00] := by decide

/-- V-PC10. -/
theorem test_exec_packCtrl :
    (nextState? (exec (.packCtrl 0xAB 0xC) State.reset)).map (·.result) = some (.byte 0xAC) := by decide

/-- V-PC2, V-PC5, V-PC6, V-PC11. -/
theorem test_packCtrl :
    packCtrl 0x10 3 = 0x13 ∧ packCtrl 0x1F 3 = 0x13 ∧ packCtrl 0x0F 0 = 0x00 ∧ packCtrl 0xFF 0xF = 0xFF ∧
    packCtrl 0x08 1 = 0x01 := by decide

/-- V-IA1 to V-IA8. -/
theorem test_isAck :
    [[0x00], [0xFF], [0x01], [], [0x00, 0x00], [0x00, 0x01], [0x80], [0xAA]].map isAck
      = [true, false, false, false, false, false, false, false] := by decide

/-- V-DR3. -/
theorem test_exec_decodeResponse :
    (nextState? (exec (.decodeResponse [0x00]) State.reset)).map (·.result)
      = some (.bytes { raw := [0x00], count := 1 }) := by decide

/-- V-VC1 to V-VC8. -/
theorem test_verifyChecksum :
    [[], [0x00], [0x01], [0x11, 0x00, 0x03, 0x14], [0x11, 0x00, 0x03, 0x15], [0xFF, 0xFF], [0x80, 0x80, 0x00],
      [0x14, 0x11, 0x00, 0x03]].map verifyChecksum
      = [false, true, false, true, false, true, true, false] := by decide

/-- V-VC9. -/
theorem test_exec_verifyChecksum :
    (nextState? (exec (.verifyChecksum [0x01, 0x02, 0x03, 0x06]) State.reset)).map (·.result)
      = some (.bool true) := by decide

/-! ## The transport: 95 section 2.7 -/

/-- V-TR1. -/
theorem test_tOpen_ok :
    (nextState? (exec (.tOpen portP) (withLine [.ok] [] []))).map (fun t => (t.handle, t.ret, t.trace))
      = some (.opened portP, .ok, [.evOpen portP .ok]) := by decide

/-- V-TR2. -/
theorem test_tOpen_err :
    (nextState? (exec (.tOpen portP) (withLine [.err 5] [] []))).map (fun t => (t.handle, t.ret, t.trace))
      = some (.closed, .portOpenError ['P'] 5, [.evOpen portP (.err 5)]) := by decide

/-- V-TR3. -/
theorem test_tWrite_ok :
    (nextState? (exec (.tWrite [0x10]) { opened with writes := [.ok], tx := [0x77] })).map
      (fun t => (t.tx, t.ret, t.trace)) = some ([0x77, 0x10], .ok, [.evWrite [0x10] .ok]) := by decide

/-- V-TR4, with two bytes on the line. -/
theorem test_tWrite_err :
    (nextState? (exec (.tWrite [0x11, 0x00, 0x03, 0x14]) { opened with writes := [.err 5 2] })).map
      (fun t => (t.tx, t.ret)) = some ([0x11, 0x00], .writeError 5) := by decide

/-- V-TR5. -/
theorem test_tRead_data :
    (nextState? (exec (.tRead 1 200) { opened with reads := [.data [0x00]] })).map
      (fun t => (t.lastrx, t.rx, t.trace))
      = some (some (.data [0x00]), [0x00], [.evRead 1 200 (.data [0x00])]) := by decide

/-- V-TR8: no byte is a time-out. -/
theorem test_tRead_empty :
    (nextState? (exec (.tRead 1 200) { opened with reads := [.data []] })).map
      (fun t => (t.lastrx, lastTimeout t, t.rx, t.trace))
      = some (some .timedOut, true, [], [.evRead 1 200 .timedOut]) := by decide

/-- V-TR11. -/
theorem test_tClose :
    (nextState? (exec .tClose opened)).map (fun t => (t.handle, t.trace)) = some (.closed, [.evClose]) := by
  decide

/-- V-TR12. -/
theorem test_delay :
    nextState? (exec (.delay 200) opened) = some { opened with trace := [.evDelay 200] } := by decide

/-! ## Whole operations: 95 sections 2.8 and 2.9 -/

/-- H3: a time-out, and then the acknowledgment. -/
theorem test_reset_H3 :
    (finished (.reset 0x10 portP) 7 (withLine [.ok] [.ok, .ok] [.timedOut, .data [0x00]])).map
      (fun t => (t.result, t.tx, t.attempt, statusWord t, outcomeWord t))
      = some (.bool true, [0x10, 0x10], 2, 0x21D, 0x0001) := by decide

/-- H8: the port does not open. -/
theorem test_reset_H8 :
    (finished (.reset 0x10 portP) 1 (withLine [.err 5] [] [])).map
      (fun t => (t.result, t.trace, statusWord t, outcomeWord t, errorCode t))
      = some (.error (.portOpenError ['P'] 5), [.evOpen portP (.err 5)], 0x00E, 0x0000, 1) := by decide

/-- H13. -/
theorem test_command_H13 :
    (finished (.command 0x1F 3 portP) 4 (withLine [.ok] [.ok] [.data [0x00]])).map
      (fun t => (t.result, t.tx, statusWord t)) = some (.status .ackReceived, [0x13], 0x11D) := by decide

/-- H20: three bytes that are no acknowledgment. -/
theorem test_command_H20 :
    (finished (.command 0x30 5 portP) 10
        (withLine [.ok] [.ok, .ok, .ok] [.data [0xFF], .data [0xFF], .data [0xFF]])).map
      (fun t => (t.result, t.tx, statusWord t, outcomeWord t))
      = some (.status .noAckReceived, [0x35, 0x35, 0x35], 0x34E, 0xFF02) := by decide

/-- S2: the threshold is met by two chunks. -/
theorem test_rawsend_S2 :
    (finished (.rawsend portP [0x11, 0x00, 0x03] none (some 4)) 5
        (withLine [.ok] [.ok] [.data [0x01, 0x02], .data [0x03, 0x04]])).map
      (fun t => (t.result, t.tx, t.fsm, accCount t))
      = some (.bytes { raw := [0x01, 0x02, 0x03, 0x04], count := 4 }, [0x11, 0x00, 0x03, 0x14], .success, 4) := by
  decide

/-- S9: a read failure after data. -/
theorem test_rawsend_S9 :
    (finished (.rawsend portP [0x11, 0x00, 0x03] none none) 5
        (withLine [.ok] [.ok] [.data [0x01], .readError 5])).map
      (fun t => (t.result, t.fsm, t.handle, errorCode t))
      = some (.error (.readError ['P'] 5), .failure, .closed, 3) := by decide

/-- The two texts (42_handshake R144). -/
theorem test_status_texts :
    StatusText.ackReceived.text = "ACK received" ∧ StatusText.noAckReceived.text = "No ACK received" := by decide

/-- T11 and T12 of 95: the bridge's contract, outside the hardware. -/
theorem test_bridge_contract :
    bridgeSend { connected := true, writeFailure := none, lines := [['a'], [], ['b']], stop := .endOfStream }
      = .reply [['a'], ['b']] ∧
    bridgeSend { connected := true, writeFailure := none, lines := [], stop := .timedOut } = .error .noResponse ∧
    bridgeTrim [' ', 'a', ' ', 'b', ' '] = ['a', ' ', 'b'] := by decide

/-! ## Witnesses: concrete values that meet the hypotheses of each statement -/

/-- A state that waits with an invocation presented, and one whose caller did not wait. -/
def presented (e : HostEvent) : State := { State.reset with host := [e] }

theorem witness_WaitsForHost : State.reset.uop = none ∧ State.reset.host = [] := by decide

theorem witness_StepRunsRequest_invoke :
    (presented (.invoke (hostP 0))).uop = none ∧ (presented (.invoke (hostP 0))).host = [.invoke (hostP 0)] ∧
    decode (.host (hostP 0)) = .ok (.reset 0 portP) := by decide

theorem witness_StepRunsRequest_overlap :
    (presented (.overlap (hostP 4))).uop = none ∧ (presented (.overlap (hostP 4))).host = [.overlap (hostP 4)] ∧
    decode (.host (hostP 4)) = .ok (.checksum []) := by decide

/-- A caller's invocation on another port does not intrude (20_memory R65). -/
theorem witness_StepRunsRequest_request :
    let s := { sending .ok with host := [.overlap { hostP 0 with portId := ['Q'] }] }
    s.uop = some (writeRequest [0x10]) ∧ intrusion s = none ∧
      decode (.uop (writeRequest [0x10])) = .ok (.tWrite [0x10]) := by decide

theorem witness_StepRefusals_reserved :
    (presented (.invoke (hostP 10))).uop = none ∧ (presented (.invoke (hostP 10))).host = [.invoke (hostP 10)] ∧
    decode (.host (hostP 10)) = .error (.reservedOp 10) := by decide

theorem witness_StepRefusals_reserved_overlap :
    (presented (.overlap (hostP 15))).uop = none ∧ (presented (.overlap (hostP 15))).host = [.overlap (hostP 15)] ∧
    decode (.host (hostP 15)) = .error (.reservedOp 15) := by decide

theorem witness_StepRefusals_request :
    let s := { sending .ok with uop := some { code := 5 } }
    s.uop = some { code := 5 } ∧ intrusion s = none ∧
      decode (.uop { code := 5 }) = .error (.reservedUop 5) := by decide

/-- An invocation on another port, and a codec function on the same one: the callers of both wait their turn. -/
def patient : List HostEvent := [.overlap { hostP 2 with portId := ['Q'] }, .overlap (hostP 3)]

theorem patient_waits : ∀ e ∈ patient, WaitsItsTurn ['P'] e := by
  intro e he
  simp only [patient, List.mem_cons, List.not_mem_nil, or_false] at he
  rcases he with rfl | rfl
  · exact ⟨_, rfl, .inr (by decide)⟩
  · exact ⟨_, rfl, .inl (by decide)⟩

/-- 20_memory R64, R65: what stands behind callers that do not wait has happened too, and what stands behind one that
waits has not. -/
theorem test_intrusion :
    intrusion { sending .ok with host := patient ++ [HostEvent.rewrite] } = some .operandsChanged ∧
    intrusion { sending .ok with host := patient ++ [HostEvent.overlap (hostP 2)] } = some .overlappingInvocation ∧
    intrusion { sending .ok with host := patient ++ [HostEvent.invoke (hostP 0), .rewrite] } = none := by decide

theorem witness_StepRefusals_overlap :
    let s := { sending .ok with host := patient ++ [HostEvent.overlap (hostP 2)] }
    s.uop = some (writeRequest [0x10]) ∧ (∀ e ∈ patient, WaitsItsTurn s.port.id e) ∧
      s.host = patient ++ .overlap (hostP 2) :: [] ∧ (hostP 2).op.toNat ≤ 2 ∧ (hostP 2).portId = s.port.id :=
  ⟨rfl, patient_waits, rfl, by decide, rfl⟩

theorem witness_StepRefusals_rewrite :
    let s := { sending .ok with host := patient ++ [HostEvent.rewrite] }
    s.uop = some (writeRequest [0x10]) ∧ (∀ e ∈ patient, WaitsItsTurn s.port.id e) ∧
      s.host = patient ++ .rewrite :: [] := ⟨rfl, patient_waits, rfl⟩

theorem witness_StepRefusals_waits :
    let s := { sending .ok with host := patient ++ [HostEvent.invoke (hostP 0)] }
    s.uop = some (writeRequest [0x10]) ∧ (∀ e ∈ patient, WaitsItsTurn s.port.id e) ∧
      s.host = patient ++ .invoke (hostP 0) :: [] ∧ decode (.uop (writeRequest [0x10])) = .ok (.tWrite [0x10]) :=
  ⟨rfl, patient_waits, rfl, by decide⟩

/-- Every operand at its greatest value. -/
def widest : Instr :=
  .rawsend { portP with baud := 4294967295, readTimeout := 4294967295, flow := .hardware, parity := .even,
                        stopBits := .two } [0xFF] (some 2147483647) (some 2147483647)

theorem witness_DecodeEncode : widest.wellFormed = true ∧ decode (encode widest) = .ok widest := by decide

theorem witness_DecodeWellFormed : decode (.host (hostP 0)) = .ok (.reset 0 portP) := by decide

theorem witness_ReservedCodes_op : 10 ≤ (hostP 10).op.toNat ∧ 10 ≤ (hostP 15).op.toNat := by decide

theorem witness_ReservedCodes_uop :
    5 ≤ ({ code := 5 } : UopRegs).code.toNat ∧ 5 ≤ ({ code := 7 } : UopRegs).code.toNat := by decide

theorem witness_ReservedCodes_parity :
    (hostP 2).op.toNat ≤ 2 ∧ ({ hostP 2 with cfg := 0x0F } : HostRegs).cfg.extractLsb' 2 2 = 3#2 := by decide

theorem witness_ReservedCodes_flow :
    (hostP 0).op.toNat ≤ 2 ∧ ({ hostP 0 with cfg := 0x63 } : HostRegs).cfg.extractLsb' 2 2 ≠ 3#2 ∧
    ({ hostP 0 with cfg := 0x63 } : HostRegs).cfg.extractLsb' 5 2 = 3#2 := by decide

theorem witness_ReadTimeout :
    decodePort (hostP 0) = .ok portP ∧ decodePort { hostP 0 with readTimeout := none } = .ok portP := by decide

/-- The least width, and one whose low bits are lost. -/
theorem witness_ChecksumWidthFree_width : 8 ≤ 8 ∧ runningSum 8 [0xFF, 0xFF] = 0xFE := by decide

/-- V-CS9: 257 bytes of 0xFF. -/
theorem witness_ChecksumWidthFree_length :
    (List.replicate 257 0xFF#8).length ≤ 257 := Nat.le_of_eq List.length_replicate

/-- V-CS12: a permutation. -/
theorem witness_ChecksumLaws_perm : List.Perm [0x11#8, 0x00#8] [0x00#8, 0x11#8] := .swap _ _ _

/-- V-CS13: another sequence with the same sum mod 256. -/
theorem witness_ChecksumLaws_congruent :
    byteSum [0x11, 0x00, 0x03] % 256 = byteSum [0x12, 0x34, 0x56, 0x78] % 256 := by decide

/-- T8: the addresses 0x10 and 0x1F. -/
theorem witness_ControlByte : (0x1F#8).extractLsb' 4 4 = (0x10#8).extractLsb' 4 4 := by decide

/-- V-PC13: the addresses 0x20 and 0x10. -/
theorem witness_PackCtrlLaws : (0x20#8).extractLsb' 4 4 ≠ (0x10#8).extractLsb' 4 4 := by decide

theorem witness_VerifyAcceptsFrames :
    verifyChecksum [0x00] = true ∧ ∃ b, ([0x11, 0x00, 0x03, 0x14] : List Byte) = buildFrame b :=
  ⟨by decide, [0x11, 0x00, 0x03], by decide⟩

/-- The machine without the VERIFY_CHECKSUM unit. -/
def unverified : State := { State.reset with params := { Config.params with hasVerify := false } }

theorem witness_VerifyCompletes :
    State.reset.params.hasVerify = true ∧ unverified.params.hasVerify = false ∧
    ([0x14] : List Byte) = [] ++ [0x14] := by decide

theorem witness_OpenCompletes :
    State.reset.handle = .closed ∧ portP.dataBits = .eight ∧
    openAnswer (withLine [.ok] [] []) = .ok ∧ openAnswer (withLine [.err 5] [] []) = .err 5 ∧
    openAnswer (withLine [.hold] [] []) = .hold := by decide

theorem witness_WriteCompletes :
    opened.handle = .opened portP ∧ writeAnswer { opened with writes := [.ok] } = .ok ∧
    writeAnswer { opened with writes := [.err 5 0] } = .err 5 0 ∧
    writeAnswer { opened with writes := [.hold] } = .hold := by decide

theorem witness_FrameOnWire :
    ({ opened with writes := [.ok] } : State).handle = .opened portP ∧
    writeAnswer { opened with writes := [.ok] } = .ok := by decide

theorem witness_ReadCompletes_data :
    opened.handle = .opened portP ∧ 1 ≤ 1 ∧ readAnswer { opened with reads := [.data [0x55]] } = .data [0x55] ∧
    ([0x55] : List Byte) ≠ [] ∧ ([0x55] : List Byte).length ≤ 1 := by decide

theorem witness_ReadCompletes_other :
    readAnswer { opened with reads := [.timedOut] } = .timedOut ∧
    readAnswer { opened with reads := [.readError 5] } = .readError 5 := by decide

theorem witness_ZeroBytesIsTimeout :
    ∃ t, exec (.tRead 1 200) { opened with reads := [.data [0x55]] } = .next t ∧ t.ret = .read (.data [0x55]) :=
  ⟨_, rfl, by decide⟩

theorem witness_CloseAndDelayComplete : opened.handle = .opened portP := by decide

theorem witness_RequiredHandle : opened.handle = .opened portP ∧ State.reset.handle = .closed := by decide

theorem witness_NarrowRefused : narrowP.dataBits ≠ .eight ∧ State.reset.handle = .closed := by decide

theorem witness_HandshakeStarts : portP.dataBits = .eight := by decide

/-- The machine with a payload buffer of one byte. -/
def small : State := { State.reset with params := { Config.params with payloadMax := some 1, accMax := some 1 } }

theorem witness_RawsendStarts :
    portP.dataBits = .eight ∧ payloadOverlong State.reset [0x13] = false ∧ payloadOverlong small [0x13] = false ∧
    small.params.payloadMax = some 1 ∧ 1 < ([0x13, 0x14] : List Byte).length := by decide

theorem witness_NothingRetained_handshake :
    SameButEngine State.reset { State.reset with fsm := .failure, attempt := 3, trace := [.evClose] } ∧
    ∃ port ctrl yes no, HandshakeOp (.reset 0x10 portP) port ctrl yes no :=
  ⟨by decide, _, _, _, _, .reset _ _⟩

theorem witness_NothingRetained_rawsend :
    SameButEngine State.reset { State.reset with acc := [0x01], done := true } ∧
    ∃ p b r e, Instr.rawsend portP [0x13] none none = .rawsend p b r e :=
  ⟨by decide, _, _, _, _, rfl⟩

/-- The premises of AfterOpen, with each answer and in each kind of mode. -/
theorem witness_AfterOpen (a : OpenAnswer) :
    (opening a).fsm = .idle ∧ (opening a).uop = some (openRequest (opening a).port) ∧
    (opening a).handle = .closed ∧ (opening a).port.dataBits = .eight ∧ (opening a).attempt = 0 ∧
    intrusion (opening a) = none ∧ openAnswer (opening a) = a := ⟨rfl, rfl, rfl, rfl, rfl, rfl, rfl⟩

theorem witness_AfterOpen_modes :
    (opening .ok).mode ≠ .rawFrame ∧ ({ opening .ok with mode := .rawFrame } : State).mode = .rawFrame := by
  decide

theorem witness_AfterHandshakeWrite (w : WriteAnswer) :
    (sending w).fsm = .sending ∧ (sending w).uop = some (writeRequest (unitToSend (sending w))) ∧
    PortHeld (sending w) ∧ unitToSend (sending w) ≠ [] ∧ intrusion (sending w) = none ∧
    (sending w).mode ≠ .rawFrame ∧ writeAnswer (sending w) = w := by
  refine ⟨rfl, rfl, rfl, ?_, rfl, ?_, rfl⟩ <;> simp [sending, busy, unitToSend]

theorem witness_AfterHandshakeWrite_frame :
    (sendingFrame none .ok).uop = some (writeRequest (unitToSend (sendingFrame none .ok))) ∧
    unitToSend (sendingFrame none .ok) ≠ [] ∧ (sendingFrame none .ok).mode = .rawFrame := by decide

theorem witness_Acknowledge :
    let s := awaiting 3 (.data [0x00])
    s.fsm = .awaitingAck ∧ s.uop = some (readRequest 1 s.port.readTimeout) ∧ PortHeld s ∧ intrusion s = none ∧
      readAnswer s = .data [0x00#8] := by decide

theorem witness_HandshakeReadFailure :
    let s := awaiting 1 (.readError 5)
    s.fsm = .awaitingAck ∧ s.uop = some (readRequest 1 s.port.readTimeout) ∧ PortHeld s ∧ s.mode ≠ .rawFrame ∧
      intrusion s = none ∧ readAnswer s = .readError 5 := by decide

/-- The last attempt that another may follow, and the three kinds of an unacknowledged read. -/
theorem witness_RetryThenSend :
    ∀ r ∈ [ReadOutcome.timedOut, .data [], .data [0xFF]],
      (awaiting 2 r).fsm = .awaitingAck ∧
      (awaiting 2 r).uop = some (readRequest 1 (awaiting 2 r).port.readTimeout) ∧ PortHeld (awaiting 2 r) ∧
      (awaiting 2 r).mode ≠ .rawFrame ∧ intrusion (awaiting 2 r) = none ∧
      Retried (awaiting 2 r) (readAnswer (awaiting 2 r)) ∧
      (awaiting 2 r).attempt < (awaiting 2 r).params.maxAttempts := by decide

/-- The variant that ends the retries at a non-ACK byte: a time-out and no byte are retried all the same. -/
theorem witness_RetryThenSend_abort :
    ∀ r ∈ [ReadOutcome.timedOut, .data []],
      Retried { awaiting 2 r with params := { Config.params with abortOnNonack := true } } r := by decide

theorem witness_BudgetExhausted :
    ∀ r ∈ [ReadOutcome.timedOut, .data [], .data [0xFF]],
      (awaiting 3 r).fsm = .awaitingAck ∧
      (awaiting 3 r).uop = some (readRequest 1 (awaiting 3 r).port.readTimeout) ∧ PortHeld (awaiting 3 r) ∧
      intrusion (awaiting 3 r) = none ∧ (awaiting 3 r).params.maxAttempts ≤ (awaiting 3 r).attempt ∧
      readAnswer (awaiting 3 r) = r := by decide

theorem witness_BudgetExhausted_byte : (0xFF#8 : Byte) ≠ 0x00#8 := by decide

/-- No threshold, a threshold not yet met, and one that is met before the first read. -/
theorem witness_AfterFrameWrite :
    ∀ e ∈ [none, some 1, some 0],
      (sendingFrame e .ok).fsm = .sending ∧ (sendingFrame e .ok).mode = .rawFrame ∧
      (sendingFrame e .ok).uop = some (writeRequest (sendingFrame e .ok).txf) ∧ (sendingFrame e .ok).txf ≠ [] ∧
      PortHeld (sendingFrame e .ok) ∧ intrusion (sendingFrame e .ok) = none ∧
      thresholdMet (sendingFrame e .ok) = decide (e = some 0) := by decide

theorem witness_AfterFrameWrite_answers :
    writeAnswer (sendingFrame none .ok) = .ok ∧ writeAnswer (sendingFrame none (.err 5 1)) = .err 5 1 := by decide

/-- Every answer to the collector's read, and a chunk of the full capacity. -/
theorem witness_CollectorStep :
    ∀ r ∈ [ReadOutcome.timedOut, .data [], .data (List.replicate 8 0x55), .readError 5],
      (draining none [] r).fsm = .draining ∧ (draining none [] r).mode = .rawFrame ∧
      (draining none [] r).params.rxChunk ≠ 0 ∧
      (draining none [] r).uop =
        some (readRequest (draining none [] r).params.rxChunk (rawTimeout (draining none [] r))) ∧
      PortHeld (draining none [] r) ∧ intrusion (draining none [] r) = none ∧
      readAnswer (draining none [] r) = r := by decide

/-- An unbounded buffer, and a finite one that the chunk fills exactly. -/
theorem witness_CollectorStep_fits :
    (∀ m, (draining none [] .timedOut).params.accMax = some m → 0 + 8 ≤ m) ∧
    (∀ m, ({ draining none [] (.data [0x55]) with params := small.params } : State).params.accMax = some m →
      0 + ([0x55] : List Byte).length ≤ m) :=
  ⟨nofun, fun m h => by cases h; decide⟩

theorem witness_CollectorStep_chunk : Chunk (draining none [] .timedOut) (List.replicate 8 0x55) := by decide

/-- Thresholds 2 and 3 against two bytes: met exactly, and not met. -/
theorem witness_CollectorStep_threshold :
    (draining (some 2) [0x01] .timedOut).explen = some 2 ∧
    2 ≤ (draining (some 2) [0x01] .timedOut).acc.length + ([0x02] : List Byte).length ∧
    (draining (some 3) [0x01] .timedOut).acc.length + ([0x02] : List Byte).length < 3 := by decide

theorem witness_Delivery :
    ∀ s ∈ [closing .success .reset (some .acknowledged) none, closing .success .command (some .acknowledged) none,
        closing .failure .command (some .timedOut) none, closing .success .rawFrame none none,
        closing .failure .reset (some (.transportError 5)) (some (.writeError ['P'] 5))],
      (s.fsm = .success ∨ s.fsm = .failure) ∧ s.uop = some closeRequest ∧ PortHeld s ∧ intrusion s = none := by
  decide

theorem witness_Delivery_results :
    (closing .success .reset (some .acknowledged) none).error = none ∧
    (closing .success .reset (some .acknowledged) none).mode = .reset ∧
    (closing .failure .command (some .timedOut) none).outcome ≠ some .acknowledged ∧
    (closing .failure .reset none (some (.writeError ['P'] 5))).error = some (.writeError ['P'] 5) := by decide

theorem witness_HeldOff_open :
    (opening .hold).uop = some (openRequest (opening .hold).port) ∧ (opening .hold).handle = .closed ∧
    (opening .hold).port.dataBits = .eight ∧ intrusion (opening .hold) = none ∧
    openAnswer (opening .hold) = .hold := by decide

theorem witness_HeldOff_write :
    (sending .hold).uop = some (writeRequest [0x10]) ∧ ([0x10] : List Byte) ≠ [] ∧ PortHeld (sending .hold) ∧
    intrusion (sending .hold) = none ∧ writeAnswer (sending .hold) = .hold := by decide

theorem witness_AccumulatorBound :
    let s := { draining none [0x01] (.data [0x02]) with params := small.params }
    s.fsm = .draining ∧ s.mode = .rawFrame ∧ s.uop = some (readRequest s.params.rxChunk (rawTimeout s)) ∧
      PortHeld s ∧ intrusion s = none ∧ s.params.accMax = some 1 ∧ Chunk s [0x02] ∧
      readAnswer s = .data [0x02] ∧ 1 < s.acc.length + ([0x02] : List Byte).length := by decide

/-- P2: the acknowledgment comes in the last attempt. -/
theorem witness_HandshakeAcknowledged :
    let s := withLine [.ok] [.ok, .ok, .ok] [.timedOut, .data [0xFF], .data [0x00]]
    HandshakeOp (.reset 0x60 portP) portP (packCtrl 0x60 0) (.bool true) (.bool false) ∧
      portP.dataBits = .eight ∧ s.handle = .closed ∧ s.host = [] ∧
      ([.timedOut, .data [0xFF]] : List ReadOutcome).length + 1 ≤ s.params.maxAttempts ∧
      (∀ r ∈ ([.timedOut, .data [0xFF]] : List ReadOutcome), Retried s r) ∧ s.opens = .ok :: [] ∧
      s.writes = List.replicate 3 .ok ++ [] ∧ s.reads = [.timedOut, .data [0xFF]] ++ .data [0x00#8] :: [] :=
  ⟨.reset _ _, by decide⟩

/-- H14: three time-outs. -/
theorem witness_HandshakeExhausted :
    let s := withLine [.ok] [.ok, .ok, .ok] [.timedOut, .timedOut, .timedOut]
    HandshakeOp (.command 0x1F 3 portP) portP (packCtrl 0x1F 3) (.status .ackReceived) (.status .noAckReceived) ∧
      portP.dataBits = .eight ∧ s.handle = .closed ∧ s.host = [] ∧
      ([.timedOut, .timedOut] : List ReadOutcome).length + 1 = s.params.maxAttempts ∧
      (∀ r ∈ ([.timedOut, .timedOut] : List ReadOutcome), Retried s r) ∧
      Unacknowledged .timedOut ∧ s.opens = .ok :: [] ∧ s.writes = List.replicate 3 .ok ++ [] ∧
      s.reads = [.timedOut, .timedOut] ++ .timedOut :: [] :=
  ⟨.command _ _ _, by decide⟩

theorem witness_HandshakeTerminates :
    let s := withLine [.err 5] [.ok, .err 5 0, .ok] []
    HandshakeOp (.reset 0x10 portP) portP (packCtrl 0x10 0) (.bool true) (.bool false) ∧
      portP.dataBits = .eight ∧ s.handle = .closed ∧ s.host = [] ∧ 1 ≤ s.params.maxAttempts ∧ LineAnswers s :=
  ⟨.reset _ _, by decide⟩

/-- H10: the write of the second attempt fails. -/
theorem witness_HandshakeTrace :
    let s := withLine [.ok] [.ok, .err 5 0] [.timedOut]
    HandshakeOp (.reset 0x10 portP) portP (packCtrl 0x10 0) (.bool true) (.bool false) ∧ s.handle = .closed ∧
      s.host = [] ∧ 1 ≤ s.params.maxAttempts ∧
      ∃ t u, exec (.reset 0x10 portP) s = .next t ∧ run 6 t = .next u ∧ u.done = true :=
  ⟨.reset _ _, rfl, rfl, by decide, _, _, rfl, rfl, by decide⟩

/-- S1, with a chunk of the full capacity after it. -/
theorem witness_RawsendDrains :
    let chunks : List (List Byte) := [[0x01, 0x02], List.replicate 8 0x55]
    let s := withLine [.ok] [.ok] (chunks.map .data ++ [.timedOut])
    portP.dataBits = .eight ∧ s.handle = .closed ∧ s.host = [] ∧ Fits s 3 chunks.flatten.length ∧ 1 ≤ s.params.rxChunk ∧
      (∀ bs ∈ chunks, Chunk s bs) ∧ s.opens = .ok :: [] ∧ s.writes = .ok :: [] ∧
      s.reads = chunks.map .data ++ .timedOut :: [] :=
  ⟨rfl, rfl, rfl, ⟨nofun, nofun⟩, by decide⟩

/-- Finite buffers that are filled exactly. -/
theorem witness_RawsendDrains_fits :
    Fits small ([0x13] : List Byte).length ([[0x55]] : List (List Byte)).flatten.length :=
  ⟨fun m h => by cases h; decide, fun m h => by cases h; decide⟩

/-- S2 with the threshold 4 met exactly, and S4 with 3 exceeded. -/
theorem witness_RawsendThreshold :
    let chunks : List (List Byte) := [[0x01, 0x02], [0x03, 0x04]]
    let s := withLine [.ok] [.ok] (chunks.map .data ++ [.data [0x05]])
    portP.dataBits = .eight ∧ s.handle = .closed ∧ s.host = [] ∧ Fits s 3 chunks.flatten.length ∧
      (∀ bs ∈ chunks, Chunk s bs) ∧
      (∀ n ∈ [3, 4], n ≤ chunks.flatten.length ∧ (chunks ≠ [] → chunks.dropLast.flatten.length < n)) ∧
      s.opens = .ok :: [] ∧ s.writes = .ok :: [] ∧ s.reads = chunks.map .data ++ [.data [0x05]] :=
  ⟨rfl, rfl, rfl, ⟨nofun, nofun⟩, by decide⟩

/-- S5: the threshold 0 is met by no chunk at all. -/
theorem witness_RawsendThreshold_zero :
    let chunks : List (List Byte) := []
    (∀ bs ∈ chunks, Chunk State.reset bs) ∧ 0 ≤ chunks.flatten.length ∧
      (chunks ≠ [] → chunks.dropLast.flatten.length < 0) := by decide

/-- S9. -/
theorem witness_RawsendTrace :
    let s := withLine [.ok] [.ok] [.data [0x01], .readError 5]
    s.handle = .closed ∧ s.host = [] ∧
      ∃ t u, exec (.rawsend portP [0x13] none none) s = .next t ∧ run 5 t = .next u ∧ u.done = true :=
  ⟨rfl, rfl, _, _, rfl, rfl, by decide⟩

theorem inv_opening : EngineInv (opening .ok) :=
  ⟨by decide, by decide, by decide, by decide, by decide, by decide, by decide, by decide, by decide, by decide,
    by decide⟩

theorem inv_sending : EngineInv (sending .ok) :=
  ⟨by decide, by decide, by decide, by decide, by decide, by decide, by decide, by decide, by decide, by decide,
    by decide⟩

theorem inv_awaiting : EngineInv (awaiting 1 .timedOut) :=
  ⟨by decide, by decide, by decide, by decide, by decide, by decide, by decide, by decide, by decide, by decide,
    by decide⟩

theorem inv_retrying : EngineInv retrying :=
  ⟨by decide, by decide, by decide, by decide, by decide, by decide, by decide, by decide, by decide, by decide,
    by decide⟩

theorem inv_draining : EngineInv (draining (some 2) [0x01] (.data [0x02])) :=
  ⟨by decide, by decide, by decide, by decide, by decide, by decide, by decide, by decide, by decide, by decide,
    by decide⟩

theorem inv_drainingIdle : EngineInv (draining none [] .timedOut) :=
  ⟨by decide, by decide, by decide, by decide, by decide, by decide, by decide, by decide, by decide, by decide,
    by decide⟩

theorem inv_sendingFrame : EngineInv (sendingFrame none .hold) :=
  ⟨by decide, by decide, by decide, by decide, by decide, by decide, by decide, by decide, by decide, by decide,
    by decide⟩

theorem inv_closing : EngineInv (closing .success .reset none none) :=
  ⟨by decide, by decide, by decide, by decide, by decide, by decide, by decide, by decide, by decide, by decide,
    by decide⟩

/-- The invariant holds in a state of each kind, from each of which a step answers a next state. -/
theorem witness_InvariantStep :
    EngineInv (opening .ok) ∧ EngineInv (sending .ok) ∧ EngineInv (awaiting 1 .timedOut) ∧ EngineInv retrying ∧
    EngineInv (draining (some 2) [0x01] (.data [0x02])) ∧ EngineInv (closing .success .reset none none) :=
  ⟨inv_opening, inv_sending, inv_awaiting, inv_retrying, inv_draining, inv_closing⟩

theorem witness_InvariantStep_steps :
    ∀ s ∈ [opening .ok, sending .ok, awaiting 1 .timedOut, retrying, draining (some 2) [0x01] (.data [0x02]),
        closing .success .reset none none],
      (nextState? (step s)).isSome = true := by decide

theorem witness_NoFault : EngineInv (sending .ok) := inv_sending

/-- A port that was held is released, and the result is valid. -/
theorem witness_HandleReleased :
    EngineInv (closing .success .reset none none) ∧
    ∃ t, step (closing .success .reset none none) = .next t ∧ t.done = true ∧ t.uop = none :=
  ⟨inv_closing, _, rfl, by decide⟩

theorem witness_ConfigImmutable :
    (sending .ok).uop ≠ none ∧ (sending .ok).handle = .opened portP ∧ ∃ t, step (sending .ok) = .next t :=
  ⟨by decide, rfl, _, rfl⟩

theorem witness_ConfigImmutable_opens :
    (opening .ok).handle = .closed ∧ ∃ t, step (opening .ok) = .next t ∧ t.handle = .opened portP :=
  ⟨rfl, _, rfl, by decide⟩

theorem witness_StreamsAppendOnly : ∃ t, step (sending .ok) = .next t ∧ t.tx = [0x10] := ⟨_, rfl, by decide⟩

theorem witness_ParametersConstant : (sending .ok).uop ≠ none ∧ ∃ t, step (sending .ok) = .next t :=
  ⟨by decide, _, rfl⟩

/-- A step of each kind: a write, a failed write, a read, and a write that the line does not answer. -/
theorem witness_TraceMatchesLine :
    (sending .ok).uop ≠ none ∧ (∃ t, step (sending .ok) = .next t) ∧
    (∃ t, step (sending (.err 5 1)) = .next t) ∧ (∃ t, step (awaiting 1 .timedOut) = .next t) ∧
    (∃ t, step (sending .hold) = .next t) :=
  ⟨by decide, ⟨_, rfl⟩, ⟨_, rfl⟩, ⟨_, rfl⟩, ⟨_, rfl⟩⟩

theorem witness_RawModeHasNoRetry :
    EngineInv (draining none [] .timedOut) ∧ (draining none [] .timedOut).uop ≠ none ∧
    (draining none [] .timedOut).mode = .rawFrame ∧ ∃ t, step (draining none [] .timedOut) = .next t :=
  ⟨inv_drainingIdle, by decide, rfl, _, rfl⟩

/-- A frame whose write the line does not answer: the request stands. -/
theorem witness_RawModeHasNoRetry_held :
    EngineInv (sendingFrame none .hold) ∧ (sendingFrame none .hold).fsm ≠ .idle ∧
    ∃ t, step (sendingFrame none .hold) = .next t ∧ t.fsm = .sending :=
  ⟨inv_sendingFrame, by decide, _, rfl, by decide⟩

theorem witness_StatusRegister :
    ({ State.reset with attempt := 255 } : State).attempt < 256 ∧ State.reset.acc.length < 2 ^ 32 ∧
    { Config.params with maxAttempts := 255 }.maxAttempts < 256 ∧ State.reset.params.retryDelayMs < 2 ^ 32 ∧
    ({ State.reset with outcome := some (.notAcknowledged [0xFF]) } : State).outcome
      = some (.notAcknowledged [0xFF]) := by decide

theorem witness_BridgeContract :
    (BridgeStop.endOfStream = .endOfStream ∨ BridgeStop.endOfStream = .timedOut) ∧ ([['a']] : List Text) ≠ [] ∧
    ([['b'], ['c']] : List Text) ≠ [] := by decide

end Sys2Proof.Tests
end

section
/-! The family of 10_state: what a step can do, what it leaves alone, the engine's invariant, and the packed
registers. -/

namespace Sys2Proof.Machine

/-! ## What is decoded -/

/-- A request of the host is decoded to an operation of the host's format. -/
theorem decodeHost_format {r : HostRegs} {i : Instr} (h : decodeHost r = .ok i) : i.select.1 = .hostop := by
  have withPort_format : ∀ f : PortConfig → Instr, (∀ p, (f p).select.1 = .hostop) →
      withPort r f = .ok i → i.select.1 = .hostop := by
    intro f hf hw
    unfold withPort at hw
    split at hw
    · cases hw
      exact hf _
    · cases hw
  unfold decodeHost at h
  split at h
  case h_1 | h_2 | h_3 => exact withPort_format _ (fun _ => rfl) h
  all_goals cases h
  all_goals rfl

/-- A request of the engine is decoded to an operation of the engine's format. -/
theorem decodeUop_format {u : UopRegs} {i : Instr} (h : decodeUop u = .ok i) : i.select.1 = .uop := by
  unfold decodeUop at h
  split at h
  case h_2 | h_3 => split at h <;> cases h; rfl
  all_goals cases h
  all_goals rfl

/-! ## What a transport primitive can do -/

/-- Every way in which an operation of the engine's format answers a next state. -/
theorem execPrimitive_cases {i : Instr} {s m : State} (hi : i.select.1 = .uop) (h : exec i s = .next m) :
    (∃ cfg, i = .tOpen cfg ∧ s.handle = .closed ∧ m = openPort cfg s) ∨
    (∃ bs cfg, i = .tWrite bs ∧ s.handle = .opened cfg ∧ m = writeBytes bs s) ∨
    (∃ cap timeout cfg, i = .tRead cap timeout ∧ s.handle = .opened cfg ∧ m = readBytes cap timeout s) ∨
    (∃ cfg, i = .tClose ∧ s.handle = .opened cfg ∧
      m = { s with handle := .closed, ret := .nothing, trace := s.trace ++ [.evClose] }) ∨
    (∃ ms, i = .delay ms ∧ m = { s with ret := .nothing, trace := s.trace ++ [.evDelay ms] }) := by
  cases i with
  | tOpen cfg =>
    cases hs : s.handle with
    | opened c => simp [exec, execTOpen, hs] at h
    | closed =>
      cases hr : portRefusal cfg with
      | some r => simp [exec, execTOpen, hs, hr] at h
      | none => exact .inl ⟨cfg, rfl, rfl, by simpa [exec, execTOpen, hs, hr] using h.symm⟩
  | tWrite bs =>
    cases hs : s.handle with
    | closed => simp [exec, execTWrite, hs] at h
    | opened c => exact .inr (.inl ⟨bs, c, rfl, rfl, by simpa [execTWrite_runs bs hs] using h.symm⟩)
  | tRead cap timeout =>
    cases hs : s.handle with
    | closed => simp [exec, execTRead, hs] at h
    | opened c =>
      exact .inr (.inr (.inl ⟨cap, timeout, c, rfl, rfl, by simpa [execTRead_runs cap timeout hs] using h.symm⟩))
  | tClose =>
    cases hs : s.handle with
    | closed => simp [exec, execTClose, hs] at h
    | opened c => exact .inr (.inr (.inr (.inl ⟨c, rfl, rfl, by simpa [execTClose_runs hs] using h.symm⟩)))
  | delay ms => exact .inr (.inr (.inr (.inr ⟨ms, rfl, by simpa [execDelay_runs] using h.symm⟩)))
  | _ => cases hi

/-- `s` with the fields that a transport primitive may write taken from `c`. -/
def State.withTransport (s c : State) : State :=
  { s with handle := c.handle, uop := c.uop, ret := c.ret, lastrx := c.lastrx, trace := c.trace, tx := c.tx,
           rx := c.rx, opens := c.opens, writes := c.writes, reads := c.reads, tick := c.tick }

theorem openPort_frame (cfg : PortConfig) (s : State) : openPort cfg s = s.withTransport (openPort cfg s) := by
  cases h : openAnswer s with
  | ok => rw [openPort_ok cfg h]; rfl
  | err c => rw [openPort_err cfg h]; rfl
  | hold => rw [openPort_hold cfg h]; rfl

theorem writeBytes_frame (bs : List Byte) (s : State) : writeBytes bs s = s.withTransport (writeBytes bs s) := by
  cases h : writeAnswer s with
  | ok => rw [writeBytes_ok bs h]; rfl
  | err c k => rw [writeBytes_err bs h]; rfl
  | hold => rw [writeBytes_hold bs h]; rfl

/-- A primitive writes the port, the line, the trace and its answer, and nothing else of the state. -/
theorem execPrimitive_frame {i : Instr} {s m : State} (hi : i.select.1 = .uop) (h : exec i s = .next m) :
    m = s.withTransport m := by
  obtain ⟨cfg, -, -, rfl⟩ | ⟨bs, -, -, -, rfl⟩ | ⟨cap, timeout, -, -, -, rfl⟩ | ⟨-, -, -, rfl⟩ | ⟨ms, -, rfl⟩ :=
    execPrimitive_cases hi h
  · exact openPort_frame cfg s
  · exact writeBytes_frame bs s
  · rfl
  · rfl
  · rfl

/-! ## What a transition of the engine can do -/

/-- `s` with the fields that a transition of the engine may write taken from `c`. -/
def State.withControl (s c : State) : State :=
  { s with fsm := c.fsm, attempt := c.attempt, acc := c.acc, outcome := c.outcome, error := c.error,
           result := c.result, done := c.done, uop := c.uop }

/-- `t` differs from `s` at most in what a transition of the engine may write. -/
def ControlOnly (s t : State) : Prop := t = s.withControl t

theorem ControlOnly.trans {s t v : State} (h : ControlOnly s t) (k : ControlOnly t v) : ControlOnly s v := by
  unfold ControlOnly at *
  rw [h] at k
  exact k

theorem controlOnly_release (s : State) : ControlOnly s s.release := by
  cases h : s.handle with
  | opened cfg => rw [release_opened h]; rfl
  | closed => rw [release_closed h]; rfl

theorem controlOnly_takeError (s : State) (e : ErrorValue) : ControlOnly s (s.takeError e) :=
  .trans (t := { s with fsm := .failure, outcome := errorOutcome s e, error := some e }) rfl
    (controlOnly_release _)

theorem controlOnly_unacknowledged (r : ReadOutcome) (s : State) : ControlOnly s (unacknowledged r s) := by
  cases h : mayRetry s with
  | true => rw [unacknowledged_retries r h]; rfl
  | false =>
    simp only [unacknowledged, h]
    exact .trans (t := { s with fsm := .failure, outcome := some (exhaustedOutcome r) }) rfl
      (controlOnly_release _)

theorem controlOnly_afterAckRead (r : ReadOutcome) (s : State) : ControlOnly s (afterAckRead r s) := by
  cases r with
  | readError c => exact controlOnly_takeError s _
  | timedOut => exact controlOnly_unacknowledged .timedOut s
  | data bs =>
    cases h : isAck bs with
    | false => simpa [afterAckRead, h] using controlOnly_unacknowledged (.data bs) s
    | true =>
      simp only [afterAckRead, h]
      exact .trans (t := { s with fsm := .success, outcome := some .acknowledged }) rfl (controlOnly_release _)

theorem controlOnly_finishDrain (s : State) : ControlOnly s (finishDrain s) :=
  .trans (t := { s with fsm := .success }) rfl (controlOnly_release _)

theorem controlOnly_drain (s : State) : ControlOnly s (drain s) := by
  cases h : thresholdMet s with
  | true => simpa [drain, h] using controlOnly_finishDrain s
  | false => rw [drain_reads h]; rfl

theorem controlOnly_afterDrainRead {r : ReadOutcome} {s t : State} (h : afterDrainRead r s = .next t) :
    ControlOnly s t := by
  cases r with
  | readError c =>
    cases h
    exact controlOnly_takeError s _
  | timedOut =>
    cases h
    exact controlOnly_finishDrain s
  | data bs =>
    simp only [afterDrainRead] at h
    split at h
    · cases h
    · cases h
      exact .trans (t := { s with acc := s.acc ++ bs }) rfl (controlOnly_drain _)

theorem controlOnly_afterOpen {s t : State} (h : afterOpen s = .next t) : ControlOnly s t := by
  unfold afterOpen at h
  split at h
  · split at h <;> cases h <;> rfl
  · cases h
    exact controlOnly_takeError s _
  · cases h

theorem controlOnly_afterWrite {s t : State} (h : afterWrite s = .next t) : ControlOnly s t := by
  unfold afterWrite at h
  split at h
  · split at h <;> cases h
    · rfl
    · rfl
    · exact .trans (t := { s with fsm := .draining }) rfl (controlOnly_drain _)
  · cases h
    exact controlOnly_takeError s _
  · cases h

/-- A transition writes the FSM's registers, the request and the result, and nothing else of the state. -/
theorem controlOnly_advance {s t : State} (h : advance s = .next t) : ControlOnly s t := by
  by_cases hw : s.ret = .waiting
  · rw [advance_waiting hw] at h
    cases h
    rfl
  · rw [advance_eq hw] at h
    cases hf : s.fsm with
    | idle =>
      simp only [hf] at h
      exact controlOnly_afterOpen h
    | sending =>
      simp only [hf] at h
      exact controlOnly_afterWrite h
    | awaitingAck =>
      simp only [hf] at h
      split at h <;> cases h
      exact controlOnly_afterAckRead _ s
    | retry =>
      simp only [hf] at h
      split at h <;> cases h
      rfl
    | draining =>
      simp only [hf] at h
      split at h
      · exact controlOnly_afterDrainRead h
      · cases h
    | success | failure =>
      simp only [hf] at h
      split at h <;> cases h
      rfl

/-! ## What an invocation can do -/

theorem portRefusal_eq_none {p : PortConfig} : portRefusal p = none ↔ p.dataBits = .eight := by
  cases h : p.dataBits <;> simp [portRefusal, h]

/-- RESET starts only on a port of 8 data bits. -/
theorem execReset_cases {addr : Byte} {port : PortConfig} {s t : State}
    (h : exec (.reset addr port) s = .next t) :
    port.dataBits = .eight ∧
      t = startHandshake .reset .reset (packCtrl addr 0) { s with addr := addr, port := port } := by
  cases hp : portRefusal port with
  | some r => simp [exec, execReset, hp] at h
  | none => exact ⟨portRefusal_eq_none.mp hp, by simpa [exec, execReset, hp] using h.symm⟩

/-- COMMAND starts only on a port of 8 data bits. -/
theorem execCommand_cases {addr : Byte} {opc : Nibble} {port : PortConfig} {s t : State}
    (h : exec (.command addr opc port) s = .next t) :
    port.dataBits = .eight ∧
      t = startHandshake .command .command (packCtrl addr opc)
        { s with addr := addr, opc := opc, port := port } := by
  cases hp : portRefusal port with
  | some r => simp [exec, execCommand, hp] at h
  | none => exact ⟨portRefusal_eq_none.mp hp, by simpa [exec, execCommand, hp] using h.symm⟩

/-- The low byte of a sum of 8 bits or more is the checksum (40_codec R92). -/
theorem ofNat_runningSum {w : Nat} (hw : 8 ≤ w) (bs : List Byte) :
    BitVec.ofNat 8 (runningSum w bs) = checksum bs := by
  have hsum : runningSum w bs % 2 ^ w = byteSum bs % 2 ^ w := by
    simpa [runningSum] using foldl_accumulate w bs 0
  have hdvd : 2 ^ 8 ∣ 2 ^ w := Nat.pow_dvd_pow 2 hw
  apply BitVec.eq_of_toNat_eq
  calc (BitVec.ofNat 8 (runningSum w bs)).toNat
      = runningSum w bs % 2 ^ w % 2 ^ 8 := by rw [Nat.mod_mod_of_dvd _ hdvd, BitVec.toNat_ofNat]
    _ = (checksum bs).toNat := by rw [hsum, Nat.mod_mod_of_dvd _ hdvd, checksum, BitVec.toNat_ofNat]

/-- What the generator appends to a payload makes it the frame (40_codec R93). -/
theorem append_chk_runChecksum (s : State) (bs : List Byte) : bs ++ [(s.runChecksum bs).chk] = buildFrame bs := by
  have hw : 8 ≤ s.params.sumWidth := Nat.le_trans (by decide) (Nat.le_add_right 16 _)
  simp [State.runChecksum, buildFrame, ofNat_runningSum hw]

/-- The state in which a RAWSEND starts. -/
def startRawsend (port : PortConfig) (payload : List Byte) (rto explen : Option Nat) (s : State) : State :=
  { (({ s with port := port, payload := payload, rto := rto, explen := explen }.beginInvocation
      .rawsend .rawFrame).runChecksum payload) with txf := buildFrame payload }.request (openRequest port)

theorem execRawsend_runs {port : PortConfig} {payload : List Byte} (rto explen : Option Nat) {s : State}
    (hp : portRefusal port = none) (ho : payloadOverlong s payload = false) :
    exec (.rawsend port payload rto explen) s = .next (startRawsend port payload rto explen s) := by
  simp only [exec, execRawsend, hp, ho, append_chk_runChecksum, startRawsend, Bool.false_eq_true, if_false]

/-- RAWSEND starts only on a port of 8 data bits and with a payload that its buffer holds. -/
theorem execRawsend_cases {port : PortConfig} {payload : List Byte} {rto explen : Option Nat} {s t : State}
    (h : exec (.rawsend port payload rto explen) s = .next t) :
    port.dataBits = .eight ∧ payloadOverlong s payload = false ∧ t = startRawsend port payload rto explen s := by
  cases hp : portRefusal port with
  | some r => simp [exec, execRawsend, hp] at h
  | none =>
    cases ho : payloadOverlong s payload with
    | true => simp [exec, execRawsend, hp, ho] at h
    | false =>
      rw [execRawsend_runs rto explen hp ho] at h
      cases h
      exact ⟨portRefusal_eq_none.mp hp, rfl, rfl⟩

/-- `s` with the fields that a codec function invoked alone may write taken from `c`. -/
def State.withCodec (s c : State) : State :=
  { s with op := c.op, addr := c.addr, opc := c.opc, bytes := c.bytes, sum := c.sum, chk := c.chk,
           error := c.error, result := c.result, done := c.done }

/-- VERIFY_CHECKSUM runs the generator over all but the last byte, and not at all on the empty sequence. -/
theorem execVerifyChecksum_cases {bytes : List Byte} {s t : State} (h : exec (.verifyChecksum bytes) s = .next t) :
    t = { s with bytes := bytes }.finishCodec .verifyChecksum (.bool false) ∨
    ∃ r, t = ({ s with bytes := bytes }.runChecksum bytes.dropLast).finishCodec .verifyChecksum r := by
  simp only [exec, execVerifyChecksum] at h
  split at h
  · cases h
  · split at h
    · cases h
      exact .inl rfl
    · cases h
      exact .inr ⟨_, rfl⟩

/-- Every way in which an operation of the host's format answers a next state: a handshake starts, a RAWSEND
starts, or a codec function has run, with the checksum generator or without it. -/
theorem execInvocation_cases {i : Instr} {s t : State} (hi : i.select.1 = .hostop) (h : exec i s = .next t) :
    (∃ op mode ctrl addr opc port, mode ≠ .rawFrame ∧ port.dataBits = .eight ∧
      t = startHandshake op mode ctrl { s with addr := addr, opc := opc, port := port }) ∨
    (∃ port payload rto explen, port.dataBits = .eight ∧ t = startRawsend port payload rto explen s) ∨
    (t = s.withCodec t ∧ t.done = true ∧
      (t.sum = s.sum ∧ t.chk = s.chk ∨ ∃ bs, t.sum = (s.runChecksum bs).sum ∧ t.chk = (s.runChecksum bs).chk)) := by
  cases i with
  | reset addr port =>
    obtain ⟨hp, rfl⟩ := execReset_cases h
    exact .inl ⟨_, _, _, addr, s.opc, port, by decide, hp, rfl⟩
  | command addr opc port =>
    obtain ⟨hp, rfl⟩ := execCommand_cases h
    exact .inl ⟨_, _, _, addr, opc, port, by decide, hp, rfl⟩
  | rawsend port payload rto explen =>
    obtain ⟨hp, -, rfl⟩ := execRawsend_cases h
    exact .inr (.inl ⟨port, payload, rto, explen, hp, rfl⟩)
  | bridge text => cases h
  | checksum bytes | buildFrame bytes =>
    cases h
    exact .inr (.inr ⟨rfl, rfl, .inr ⟨bytes, rfl, rfl⟩⟩)
  | packCtrl addr opc =>
    cases h
    exact .inr (.inr ⟨rfl, rfl, .inl ⟨rfl, rfl⟩⟩)
  | isAck bytes | decodeResponse bytes =>
    cases h
    exact .inr (.inr ⟨rfl, rfl, .inl ⟨rfl, rfl⟩⟩)
  | verifyChecksum bytes =>
    obtain rfl | ⟨r, rfl⟩ := execVerifyChecksum_cases h
    · exact .inr (.inr ⟨rfl, rfl, .inl ⟨rfl, rfl⟩⟩)
    · exact .inr (.inr ⟨rfl, rfl, .inr ⟨bytes.dropLast, rfl, rfl⟩⟩)
  | _ => cases hi

/-- No invocation's start changes the parameters, the host's further events, the port or the line. -/
theorem execInvocation_frame {i : Instr} {s t : State} (hi : i.select.1 = .hostop) (h : exec i s = .next t) :
    SameHost s t ∧ t.handle = s.handle ∧ SameLine s t := by
  obtain ⟨op, mode, ctrl, addr, opc, port, -, -, rfl⟩ | ⟨port, payload, rto, explen, -, rfl⟩ | ⟨ht, -, -⟩ :=
    execInvocation_cases hi h
  · exact ⟨⟨rfl, rfl⟩, rfl, rfl, rfl, rfl, rfl, rfl, rfl⟩
  · exact ⟨⟨rfl, rfl⟩, rfl, rfl, rfl, rfl, rfl, rfl, rfl⟩
  · rw [ht]
    exact ⟨⟨rfl, rfl⟩, rfl, rfl, rfl, rfl, rfl, rfl, rfl⟩

/-! ## What a step can do -/

/-- A step with a request outstanding runs the engine's operation and then the engine's transition. -/
theorem step_request_cases {s t : State} (hu : s.uop ≠ none) (h : step s = .next t) :
    ∃ u i m, s.uop = some u ∧ decodeUop u = .ok i ∧ exec i { s with uop := none } = .next m ∧
      advance m = .next t := by
  obtain ⟨u, i, hs, -, hd, hrun⟩ | ⟨_, _, _, hs, -⟩ | ⟨hs, -⟩ := step_cases h
  · obtain ⟨m, hexec, hadv⟩ := andThen_eq_next hrun
    exact ⟨u, i, m, hs, hd, hexec, hadv⟩
  · exact absurd hs hu
  · exact absurd hs hu

/-- A step with no request outstanding starts an invocation, or takes at most an event from the host. -/
theorem step_noRequest_cases {s t : State} (hu : s.uop = none) (h : step s = .next t) :
    (∃ i rest, i.select.1 = .hostop ∧ exec i { s with host := rest } = .next t) ∨
    ∃ rest, t = { s with host := rest } := by
  obtain ⟨u, _, hs, -⟩ | ⟨r, rest, i, -, -, hd, hexec⟩ | ⟨-, ⟨-, rfl⟩ | ⟨rest, -, rfl⟩⟩ := step_cases h
  · simp [hu] at hs
  · exact .inl ⟨i, rest, decodeHost_format hd, hexec⟩
  · exact .inr ⟨t.host, rfl⟩
  · exact .inr ⟨rest, rfl⟩

/-- A step with a request outstanding leaves the parameters, the host, the latches, the mode, the control byte,
the frame and the generator alone. -/
theorem step_request_frame {s t : State} (hu : s.uop ≠ none) (h : step s = .next t) :
    SameHost s t ∧ SameLatches s t ∧ t.mode = s.mode ∧ t.ctrl = s.ctrl ∧ t.txf = s.txf ∧
      t.sum = s.sum ∧ t.chk = s.chk := by
  obtain ⟨u, i, m, -, hd, hexec, hadv⟩ := step_request_cases hu h
  have ht : t = m.withControl t := controlOnly_advance hadv
  have hm : m = { s with uop := none }.withTransport m := execPrimitive_frame (decodeUop_format hd) hexec
  rw [ht, hm]
  exact ⟨⟨rfl, rfl⟩, ⟨rfl, rfl, rfl, rfl, rfl, rfl, rfl, rfl⟩, rfl, rfl, rfl, rfl, rfl⟩

/-! ## The invariant, by the state of the FSM -/

/-- The part of the invariant that does not depend on the state of the FSM. -/
def RegistersOk (s : State) : Prop :=
  s.params.ok ∧ s.attempt ≤ s.params.maxAttempts ∧ GeneratorOk s ∧ (s.done = true → s.uop = none)

/-- What the invariant says of a state whose FSM is in `f`. -/
def FsmOk : Fsm → State → Prop
  | .idle => IdleOk
  | .sending => SendingOk
  | .awaitingAck => AwaitingOk
  | .retry => RetryOk
  | .draining => DrainingOk
  | .success => TerminalOk
  | .failure => TerminalOk

theorem engineInv_iff (s : State) : EngineInv s ↔ RegistersOk s ∧ FsmOk s.fsm s := by
  unfold EngineInv RegistersOk
  cases h : s.fsm <;> simp [FsmOk, and_assoc]

/-- Without a request outstanding the block is at rest, in Idle or in a terminal state. -/
theorem FsmOk.atRest {f : Fsm} {s : State} (h : FsmOk f s) (hu : s.uop = none) :
    AtRest s ∧ (f = .idle ∨ f = .success ∨ f = .failure) := by
  cases f with
  | idle | success | failure =>
    obtain hrest | ⟨hs, -⟩ := h
    · exact ⟨hrest, by simp⟩
    · simp [hu] at hs
  | sending | awaitingAck | retry | draining =>
    obtain ⟨hs, -⟩ := h
    simp [hu] at hs

theorem EngineInv.atRest {s : State} (h : EngineInv s) (hu : s.uop = none) :
    AtRest s ∧ (s.fsm = .idle ∨ s.fsm = .success ∨ s.fsm = .failure) :=
  ((engineInv_iff s).mp h).2.atRest hu

/-- A block at rest in Idle or a terminal state meets what the FSM demands. -/
theorem FsmOk.of_atRest {s : State} (h : AtRest s) (hf : s.fsm = .idle ∨ s.fsm = .success ∨ s.fsm = .failure) :
    FsmOk s.fsm s := by
  obtain hf | hf | hf := hf <;> rw [hf] <;> exact .inl h

/-! ## The invariant at the start of an invocation -/

theorem startHandshake_inv {op : Op} {mode : Mode} {ctrl : Byte} {s : State} (hp : s.params.ok)
    (hc : s.handle = .closed) (hd : s.port.dataBits = .eight) (hm : mode ≠ .rawFrame) :
    EngineInv (startHandshake op mode ctrl s) := by
  refine (engineInv_iff _).mpr ⟨⟨hp, Nat.zero_le _, ⟨Nat.two_pow_pos _, rfl⟩, nofun⟩, ?_⟩
  exact .inr ⟨rfl, hc, hd, rfl, rfl, rfl, rfl, fun h => absurd h hm⟩

theorem startRawsend_inv {port : PortConfig} {payload : List Byte} {rto explen : Option Nat} {s : State}
    (hp : s.params.ok) (hc : s.handle = .closed) (hd : port.dataBits = .eight) :
    EngineInv (startRawsend port payload rto explen s) := by
  refine (engineInv_iff _).mpr ⟨⟨hp, Nat.zero_le _, runChecksum_spec _ _, nofun⟩, ?_⟩
  exact .inr ⟨rfl, hc, hd, rfl, rfl, rfl, rfl, fun _ => rfl⟩

/-- A codec function invoked alone at rest leaves the block at rest. -/
theorem withCodec_inv {s c : State} (h : EngineInv s) (hu : s.uop = none) (hg : GeneratorOk (s.withCodec c)) :
    EngineInv (s.withCodec c) := by
  obtain ⟨⟨hp, ha, -, -⟩, -⟩ := (engineInv_iff s).mp h
  obtain ⟨hrest, hf⟩ := h.atRest hu
  exact (engineInv_iff _).mpr ⟨⟨hp, ha, hg, fun _ => hu⟩, .of_atRest (s := s.withCodec c) hrest hf⟩

/-- The host's operations keep the invariant. -/
theorem execInvocation_inv {i : Instr} {s t : State} (h : EngineInv s) (hu : s.uop = none)
    (hi : i.select.1 = .hostop) (he : exec i s = .next t) : EngineInv t := by
  obtain ⟨⟨hp, -, hgen, -⟩, -⟩ := (engineInv_iff s).mp h
  obtain ⟨⟨-, hc⟩, -⟩ := h.atRest hu
  obtain ⟨op, mode, ctrl, addr, opc, port, hm, hd, rfl⟩ | ⟨port, payload, rto, explen, hd, rfl⟩ |
    ⟨ht, -, hg⟩ := execInvocation_cases hi he
  · exact startHandshake_inv hp hc hd hm
  · exact startRawsend_inv hp hc hd
  · rw [ht]
    refine withCodec_inv h hu ?_
    obtain ⟨hsum, hchk⟩ | ⟨bs, hsum, hchk⟩ := hg
    · exact show t.sum < _ ∧ t.chk = _ from hsum ▸ hchk ▸ hgen
    · exact show t.sum < _ ∧ t.chk = _ from hsum ▸ hchk ▸ runChecksum_spec s bs

/-! ## The invariant along an invocation -/

/-- What the transitions presume: the registers within their bounds and no result delivered. -/
def InProgress (s : State) : Prop :=
  s.params.ok ∧ s.attempt ≤ s.params.maxAttempts ∧ GeneratorOk s ∧ s.done = false

theorem EngineInv.inProgress {s : State} (h : EngineInv s) (hu : s.uop ≠ none) : InProgress s := by
  obtain ⟨⟨hp, ha, hg, hd⟩, -⟩ := (engineInv_iff s).mp h
  exact ⟨hp, ha, hg, Bool.eq_false_iff.mpr fun ht => hu (hd ht)⟩

theorem engineInv_of_inProgress {s : State} (h : InProgress s) (hf : FsmOk s.fsm s) : EngineInv s := by
  obtain ⟨hp, ha, hg, hd⟩ := h
  exact (engineInv_iff s).mpr ⟨⟨hp, ha, hg, by simp [hd]⟩, hf⟩

/-- A terminal state in which the held port is being closed. -/
theorem closing_inv {s : State} (h : InProgress s) (ho : PortHeld s) (hu : s.uop = some closeRequest)
    (hf : s.fsm = .success ∨ s.fsm = .failure) : EngineInv s := by
  refine engineInv_of_inProgress h ?_
  obtain hf | hf := hf <;> rw [hf] <;> exact .inr ⟨hu, ho⟩

theorem takeError_opened_inv {s : State} (h : InProgress s) (ho : PortHeld s) (e : ErrorValue) :
    EngineInv (s.takeError e) := by
  rw [takeError_opened ho]
  exact closing_inv h ho rfl (.inr rfl)

theorem takeError_closed_inv {s : State} (h : InProgress s) (hc : s.handle = .closed) (e : ErrorValue) :
    EngineInv (s.takeError e) := by
  obtain ⟨hp, ha, hg, -⟩ := h
  rw [takeError_closed hc]
  exact (engineInv_iff _).mpr ⟨⟨hp, ha, hg, fun _ => rfl⟩, .inl ⟨rfl, hc⟩⟩

theorem enterSending_inv {s : State} (h : InProgress s) (ho : PortHeld s) (ha : Attempting s ∨ SendingFrame s)
    (hout : s.outcome = none) (herr : s.error = none) : EngineInv (enterSending s) :=
  engineInv_of_inProgress (s := enterSending s) h ⟨rfl, ho, ha, hout, herr⟩

theorem unacknowledged_inv {s : State} (r : ReadOutcome) (h : InProgress s) (ho : PortHeld s) (ha : Attempting s)
    (hout : s.outcome = none) (herr : s.error = none) : EngineInv (unacknowledged r s) := by
  cases hr : mayRetry s with
  | true =>
    have hlt : s.attempt < s.params.maxAttempts := ((mayRetry_iff s).mp hr).1
    rw [unacknowledged_retries r hr]
    exact engineInv_of_inProgress h ⟨rfl, ho, ha, hlt, hout, herr⟩
  | false =>
    rw [unacknowledged_fails r hr ho]
    exact closing_inv h ho rfl (.inr rfl)

theorem afterAckRead_inv {s : State} (r : ReadOutcome) (h : InProgress s) (ho : PortHeld s) (ha : Attempting s)
    (hout : s.outcome = none) (herr : s.error = none) : EngineInv (afterAckRead r s) := by
  cases r with
  | readError c => exact takeError_opened_inv h ho _
  | timedOut => exact unacknowledged_inv .timedOut h ho ha hout herr
  | data bs =>
    cases hk : isAck bs with
    | false => simpa [afterAckRead, hk] using unacknowledged_inv (.data bs) h ho ha hout herr
    | true =>
      simp only [afterAckRead, hk, if_true, acknowledge_eq ho]
      exact closing_inv h ho rfl (.inl rfl)

theorem finishDrain_inv {s : State} (h : InProgress s) (ho : PortHeld s) : EngineInv (finishDrain s) := by
  rw [finishDrain_eq ho]
  exact closing_inv h ho rfl (.inl rfl)

theorem drain_inv {s : State} (h : InProgress s) (hf : s.fsm = .draining) (ho : PortHeld s) (ha : SendingFrame s)
    (hout : s.outcome = none) (herr : s.error = none) : EngineInv (drain s) := by
  cases hm : thresholdMet s with
  | true => simpa [drain, hm] using finishDrain_inv h ho
  | false =>
    rw [drain_reads hm]
    refine engineInv_of_inProgress h ?_
    rw [hf]
    exact ⟨rfl, ho, ha, hm, hout, herr⟩

theorem afterDrainRead_inv {r : ReadOutcome} {s t : State} (hs : afterDrainRead r s = .next t)
    (h : InProgress s) (hf : s.fsm = .draining) (ho : PortHeld s) (ha : SendingFrame s) (hout : s.outcome = none)
    (herr : s.error = none) : EngineInv t := by
  cases r with
  | readError c =>
    cases hs
    exact takeError_opened_inv h ho _
  | timedOut =>
    cases hs
    exact finishDrain_inv h ho
  | data bs =>
    simp only [afterDrainRead] at hs
    split at hs
    · cases hs
    · cases hs
      exact drain_inv (s := { s with acc := s.acc ++ bs }) h hf ho ha hout herr

/-- A granted open is followed by `Sending`, in a handshake as the first attempt. -/
theorem afterOpen_enterSending {s : State} (hr : s.ret = .ok) :
    afterOpen s = .next (enterSending (if s.mode = .rawFrame then s else { s with attempt := 1 })) := by
  unfold afterOpen
  rw [hr]
  cases s.mode <;> simp

theorem afterOpen_ok_inv {s t : State} (hs : afterOpen s = .next t) (h : InProgress s) (hr : s.ret = .ok)
    (ho : PortHeld s) (ha : s.attempt = 0) (hout : s.outcome = none) (herr : s.error = none)
    (htxf : s.mode = .rawFrame → s.txf = buildFrame s.payload) : EngineInv t := by
  obtain ⟨hp, -, hg, hd⟩ := id h
  rw [afterOpen_enterSending hr] at hs
  cases hs
  split
  next hm => exact enterSending_inv h ho (.inr ⟨hm, ha, htxf hm⟩) hout herr
  next hm =>
    exact enterSending_inv (s := { s with attempt := 1 }) ⟨hp, hp.1, hg, hd⟩ ho (.inl ⟨hm, Nat.le_refl 1⟩) hout herr

theorem afterWrite_ok_inv {s t : State} (hs : afterWrite s = .next t) (h : InProgress s) (hr : s.ret = .ok)
    (ho : PortHeld s) (ha : Attempting s ∨ SendingFrame s) (hout : s.outcome = none) (herr : s.error = none) :
    EngineInv t := by
  obtain hatt | hraw := ha
  · rw [afterWrite_handshake hr hatt.1] at hs
    cases hs
    exact engineInv_of_inProgress h ⟨rfl, ho, hatt, hout, herr⟩
  · rw [afterWrite_rawFrame hr hraw.1] at hs
    cases hs
    exact drain_inv (s := { s with fsm := .draining }) h rfl ho hraw hout herr

theorem afterDelay_inv {s : State} (h : InProgress s) (ho : PortHeld s) (ha : Attempting s)
    (hlt : s.attempt < s.params.maxAttempts) (hout : s.outcome = none) (herr : s.error = none) :
    EngineInv (afterDelay s) := by
  obtain ⟨hp, -, hg, hd⟩ := h
  exact enterSending_inv (s := { s with attempt := s.attempt + 1 }) ⟨hp, hlt, hg, hd⟩ ho
    (.inl ⟨ha.1, Nat.le_add_left 1 _⟩) hout herr

/-! ## The transition of each state of the FSM -/

theorem afterOpen_of_advance {s t : State} (h : advance s = .next t) (hr : s.ret ≠ .waiting)
    (hf : s.fsm = .idle) : afterOpen s = .next t := by
  simpa [advance, hr, hf] using h

theorem afterWrite_of_advance {s t : State} (h : advance s = .next t) (hr : s.ret ≠ .waiting)
    (hf : s.fsm = .sending) : afterWrite s = .next t := by
  simpa [advance, hr, hf] using h

theorem afterAckRead_of_advance {s t : State} {r : ReadOutcome} (h : advance s = .next t) (hr : s.ret = .read r)
    (hf : s.fsm = .awaitingAck) : afterAckRead r s = t := by
  simpa [advance, hr, hf] using h

theorem afterDelay_of_advance {s t : State} (h : advance s = .next t) (hr : s.ret = .nothing)
    (hf : s.fsm = .retry) : afterDelay s = t := by
  simpa [advance, hr, hf] using h

theorem afterDrainRead_of_advance {s t : State} {r : ReadOutcome} (h : advance s = .next t)
    (hr : s.ret = .read r) (hf : s.fsm = .draining) : afterDrainRead r s = .next t := by
  simpa [advance, hr, hf] using h

theorem deliver_of_advance {s t : State} (h : advance s = .next t) (hr : s.ret = .nothing)
    (hf : s.fsm = .success ∨ s.fsm = .failure) : s.deliver = t := by
  obtain hf | hf := hf <;> simpa [advance, hr, hf] using h

/-! ## The invariant along a step with a request outstanding -/

/-- A step runs the operation of its request and then the engine's transition. -/
theorem advance_of_step {s t m : State} {u : UopRegs} {i : Instr} (hu : s.uop = some u)
    (hd : decodeUop u = .ok i) (hrun : exec i { s with uop := none } = .next m) (h : step s = .next t) :
    advance m = .next t := by
  obtain ⟨u', i', m', hu', hd', hrun', hadv⟩ := step_request_cases (by simp [hu]) h
  cases hu.symm.trans hu'
  cases hd.symm.trans hd'
  cases hrun.symm.trans hrun'
  exact hadv

/-- There is always something to send. -/
theorem unitToSend_ne_nil {s : State} (h : Attempting s ∨ SendingFrame s) : unitToSend s ≠ [] := by
  obtain ⟨hm, -⟩ | ⟨hm, -, htxf⟩ := h
  · simp [unitToSend_handshake hm]
  · simpa [unitToSend_rawFrame hm, htxf] using buildFrame_ne_nil s.payload

theorem step_idle_inv {s t : State} (h : InProgress s) (hf : s.fsm = .idle) (hu : s.uop ≠ none) (hi : IdleOk s)
    (hs : step s = .next t) : EngineInv t := by
  obtain ⟨hnone, -⟩ | ⟨hreq, hc, hd8, ha, hacc, hout, herr, htxf⟩ := hi
  · exact absurd hnone hu
  have hadv := advance_of_step hreq (decode_openRequest _) (execTOpen_runs hc hd8) hs
  cases hans : openAnswer { s with uop := none } with
  | ok =>
    rw [openPort_ok _ hans] at hadv
    exact afterOpen_ok_inv (afterOpen_of_advance hadv nofun hf) h rfl rfl ha hout herr htxf
  | err c =>
    rw [openPort_err _ hans] at hadv
    cases afterOpen_of_advance hadv nofun hf
    apply takeError_closed_inv
    exacts [h, hc]
  | hold =>
    rw [openPort_hold _ hans, advance_waiting rfl] at hadv
    cases hadv
    refine engineInv_of_inProgress h ?_
    rw [hf]
    exact .inr ⟨rfl, hc, hd8, ha, hacc, hout, herr, htxf⟩

theorem step_sending_inv {s t : State} (h : InProgress s) (hf : s.fsm = .sending) (hi : SendingOk s)
    (hs : step s = .next t) : EngineInv t := by
  obtain ⟨hreq, ho, ha, hout, herr⟩ := hi
  have hadv := advance_of_step hreq (decode_writeRequest (unitToSend_ne_nil ha)) (execTWrite_runs _ ho) hs
  cases hans : writeAnswer { s with uop := none } with
  | ok =>
    rw [writeBytes_ok _ hans] at hadv
    exact afterWrite_ok_inv (afterWrite_of_advance hadv nofun hf) h rfl ho ha hout herr
  | err c k =>
    rw [writeBytes_err _ hans] at hadv
    cases afterWrite_of_advance hadv nofun hf
    apply takeError_opened_inv
    exacts [h, ho]
  | hold =>
    rw [writeBytes_hold _ hans, advance_waiting rfl] at hadv
    cases hadv
    refine engineInv_of_inProgress h ?_
    rw [hf]
    exact ⟨rfl, ho, ha, hout, herr⟩

theorem step_awaitingAck_inv {s t : State} (h : InProgress s) (hf : s.fsm = .awaitingAck) (hi : AwaitingOk s)
    (hs : step s = .next t) : EngineInv t := by
  obtain ⟨hreq, ho, ha, hout, herr⟩ := hi
  have hadv := advance_of_step hreq (decode_readRequest _ Nat.one_ne_zero) (execTRead_runs _ _ ho) hs
  rw [readBytes_eq] at hadv
  cases afterAckRead_of_advance hadv rfl hf
  exact afterAckRead_inv _ h ho ha hout herr

theorem step_retry_inv {s t : State} (h : InProgress s) (hf : s.fsm = .retry) (hi : RetryOk s)
    (hs : step s = .next t) : EngineInv t := by
  obtain ⟨hreq, ho, ha, hlt, hout, herr⟩ := hi
  have hadv := advance_of_step hreq (decode_delayRequest _) (execDelay_runs _ _) hs
  cases afterDelay_of_advance hadv rfl hf
  exact afterDelay_inv h ho ha hlt hout herr

theorem step_draining_inv {s t : State} (h : InProgress s) (hf : s.fsm = .draining) (hi : DrainingOk s)
    (hs : step s = .next t) : EngineInv t := by
  obtain ⟨hreq, ho, ha, -, hout, herr⟩ := hi
  obtain ⟨⟨-, hchunk⟩, -⟩ := id h
  have hcap : s.params.rxChunk ≠ 0 := Nat.one_le_iff_ne_zero.mp hchunk
  have hadv := advance_of_step hreq (decode_readRequest _ hcap) (execTRead_runs _ _ ho) hs
  rw [readBytes_eq] at hadv
  exact afterDrainRead_inv (afterDrainRead_of_advance hadv rfl hf) h hf ho ha hout herr

theorem step_terminal_inv {s t : State} (h : InProgress s) (hf : s.fsm = .success ∨ s.fsm = .failure)
    (hu : s.uop ≠ none) (hi : TerminalOk s) (hs : step s = .next t) : EngineInv t := by
  obtain ⟨hnone, -⟩ | ⟨hreq, ho⟩ := hi
  · exact absurd hnone hu
  have hadv := advance_of_step hreq decode_closeRequest (execTClose_runs ho) hs
  cases deliver_of_advance hadv rfl hf
  obtain ⟨hp, ha, hg, -⟩ := h
  exact (engineInv_iff _).mpr ⟨⟨hp, ha, hg, fun _ => rfl⟩, .of_atRest ⟨rfl, rfl⟩ (.inr hf)⟩

/-- A step with a request outstanding keeps the invariant. -/
theorem step_request_inv {s t : State} (h : EngineInv s) (hu : s.uop ≠ none) (hs : step s = .next t) :
    EngineInv t := by
  have hp : InProgress s := h.inProgress hu
  obtain ⟨-, -, -, -, hidle, hsending, hawaiting, hretry, hdraining, hsuccess, hfailure⟩ := h
  cases hf : s.fsm with
  | idle => exact step_idle_inv hp hf hu (hidle hf) hs
  | sending => exact step_sending_inv hp hf (hsending hf) hs
  | awaitingAck => exact step_awaitingAck_inv hp hf (hawaiting hf) hs
  | retry => exact step_retry_inv hp hf (hretry hf) hs
  | draining => exact step_draining_inv hp hf (hdraining hf) hs
  | success => exact step_terminal_inv hp (.inl hf) hu (hsuccess hf) hs
  | failure => exact step_terminal_inv hp (.inr hf) hu (hfailure hf) hs

/-- Settles O51, from the step's two kinds: with no request outstanding an invocation starts or the host's events
shrink, and with one outstanding each state of the FSM has its own transition. -/
theorem invariantStep : Obligations.InvariantStep := by
  intro s t h hs
  by_cases hu : s.uop = none
  · obtain ⟨i, rest, hi, he⟩ | ⟨rest, rfl⟩ := step_noRequest_cases hu hs
    · exact execInvocation_inv (s := { s with host := rest }) h hu hi he
    · exact h
  · exact step_request_inv h hu hs

/-- Settles O53: a delivered result and an empty request register both mean that the block is at rest. -/
theorem handleReleased : Obligations.HandleReleased := by
  intro s t h hs
  have ht : EngineInv t := invariantStep s t h hs
  have hclosed : t.uop = none → t.handle = .closed := by
    intro hu
    obtain ⟨⟨-, hc⟩, -⟩ := ht.atRest hu
    exact hc
  obtain ⟨⟨-, -, -, hdone⟩, -⟩ := (engineInv_iff t).mp ht
  exact ⟨fun hd => hclosed (hdone hd), hclosed⟩

/-! ## The port -/

theorem ControlOnly.handle_eq {s t : State} (h : ControlOnly s t) : t.handle = s.handle := by
  have ht : t = s.withControl t := h
  rw [ht]
  rfl

theorem openPort_handle (cfg : PortConfig) (s : State) :
    (openPort cfg s).handle = s.handle ∨ (openPort cfg s).handle = .opened cfg := by
  cases h : openAnswer s with
  | ok => exact .inr (by rw [openPort_ok cfg h])
  | err c => exact .inl (by rw [openPort_err cfg h])
  | hold => exact .inl (by rw [openPort_hold cfg h])

theorem writeBytes_handle (bs : List Byte) (s : State) : (writeBytes bs s).handle = s.handle := by
  cases h : writeAnswer s with
  | ok => rw [writeBytes_ok bs h]
  | err c k => rw [writeBytes_err bs h]
  | hold => rw [writeBytes_hold bs h]

/-- A primitive leaves the port, closes it, or is the T_OPEN that opens it. -/
theorem execPrimitive_handle {i : Instr} {s m : State} (hi : i.select.1 = .uop) (h : exec i s = .next m) :
    m.handle = s.handle ∨ m.handle = .closed ∨
      ∃ cfg, i = .tOpen cfg ∧ s.handle = .closed ∧ m.handle = .opened cfg := by
  obtain ⟨cfg, rfl, hc, rfl⟩ | ⟨bs, -, -, -, rfl⟩ | ⟨cap, timeout, -, -, -, rfl⟩ | ⟨-, -, -, rfl⟩ | ⟨ms, -, rfl⟩ :=
    execPrimitive_cases hi h
  · obtain hkept | hopened := openPort_handle cfg s
    · exact .inl hkept
    · exact .inr (.inr ⟨cfg, rfl, hc, hopened⟩)
  · exact .inl (writeBytes_handle bs s)
  · exact .inl rfl
  · exact .inr (.inl rfl)
  · exact .inl rfl

/-- A step leaves the port, closes it, or runs the T_OPEN that opens it. -/
theorem step_handle {s t : State} (h : step s = .next t) :
    t.handle = s.handle ∨ t.handle = .closed ∨
      ∃ u cfg, s.uop = some u ∧ decodeUop u = .ok (.tOpen cfg) ∧ s.handle = .closed ∧ t.handle = .opened cfg := by
  by_cases hu : s.uop = none
  · obtain ⟨i, rest, hi, hexec⟩ | ⟨rest, rfl⟩ := step_noRequest_cases hu h
    · obtain ⟨-, hhandle, -⟩ := execInvocation_frame hi hexec
      exact .inl hhandle
    · exact .inl rfl
  · obtain ⟨u, i, m, hu, hd, hexec, hadv⟩ := step_request_cases hu h
    have ht : t.handle = m.handle := (controlOnly_advance hadv).handle_eq
    obtain hkept | hclosed | ⟨cfg, rfl, hc, hopened⟩ := execPrimitive_handle (decodeUop_format hd) hexec
    · exact .inl (ht.trans hkept)
    · exact .inr (.inl (ht.trans hclosed))
    · exact .inr (.inr ⟨u, cfg, hu, hd, hc, ht.trans hopened⟩)

/-- Settles O54, from what a step can do to the port and from what a step with a request outstanding leaves
alone. -/
theorem configImmutable : Obligations.ConfigImmutable := by
  refine ⟨fun s t cfg h ho => ?_, fun s t cfg h hc ho => ?_, fun s t hu h => ?_⟩
  · obtain hkept | hclosed | ⟨-, -, -, -, hc, -⟩ := step_handle h
    · exact .inl (hkept.trans ho)
    · exact .inr hclosed
    · simp [ho] at hc
  · obtain hkept | hclosed | ⟨u, cfg', hu, hd, -, ho'⟩ := step_handle h
    · simp [hkept, hc] at ho
    · simp [hclosed] at ho
    · cases ho'.symm.trans ho
      exact ⟨u, hu, hd⟩
  · obtain ⟨-, hlatches, hmode, hctrl, htxf, -⟩ := step_request_frame hu h
    exact ⟨hlatches, hmode, hctrl, htxf⟩

/-- Settles O56: both kinds of step leave the parameters, and one with a request outstanding the host. -/
theorem parametersConstant : Obligations.ParametersConstant := by
  intro s t h
  by_cases hu : s.uop = none
  · refine ⟨?_, fun hne => absurd hu hne⟩
    obtain ⟨i, rest, hi, hexec⟩ | ⟨rest, rfl⟩ := step_noRequest_cases hu h
    · obtain ⟨⟨hparams, -⟩, -⟩ := execInvocation_frame hi hexec
      exact hparams
    · rfl
  · obtain ⟨⟨hparams, hhost⟩, -⟩ := step_request_frame hu h
    exact ⟨hparams, fun _ => hhost⟩

/-! ## The trace -/

/-- The trace and TX of `t` are those of `s`, or those after one event more and the bytes of that event's write. -/
def OneEventMore (s t : State) : Prop :=
  (t.trace = s.trace ∧ t.tx = s.tx) ∨
  ∃ e, t.trace = s.trace ++ [e] ∧
    (∀ bs, e = .evWrite bs .ok → t.tx = s.tx ++ bs) ∧
    (∀ bs c, e = .evWrite bs (.err c) → ∃ p, p <+: bs ∧ t.tx = s.tx ++ p) ∧
    ((∀ bs r, e ≠ .evWrite bs r) → t.tx = s.tx)

/-- An event that is no write leaves TX alone. -/
theorem oneEventMore_of_tx_eq {s t : State} {e : Event} (htrace : t.trace = s.trace ++ [e]) (htx : t.tx = s.tx)
    (he : ∀ bs r, e ≠ .evWrite bs r) : OneEventMore s t :=
  .inr ⟨e, htrace, fun bs h => absurd h (he bs _), fun bs _ h => absurd h (he bs _), fun _ => htx⟩

theorem openPort_oneEventMore (cfg : PortConfig) (s : State) : OneEventMore s (openPort cfg s) := by
  cases h : openAnswer s with
  | ok =>
    rw [openPort_ok cfg h]
    exact oneEventMore_of_tx_eq rfl rfl nofun
  | err c =>
    rw [openPort_err cfg h]
    exact oneEventMore_of_tx_eq rfl rfl nofun
  | hold =>
    rw [openPort_hold cfg h]
    exact .inl ⟨rfl, rfl⟩

theorem writeBytes_oneEventMore (bs : List Byte) (s : State) : OneEventMore s (writeBytes bs s) := by
  cases h : writeAnswer s with
  | ok =>
    rw [writeBytes_ok bs h]
    refine .inr ⟨_, rfl, ?_, nofun, fun hne => absurd rfl (hne bs .ok)⟩
    rintro _ ⟨⟩
    rfl
  | err c k =>
    rw [writeBytes_err bs h]
    refine .inr ⟨_, rfl, nofun, ?_, fun hne => absurd rfl (hne bs (.err c))⟩
    rintro _ _ ⟨⟩
    exact ⟨bs.take k, List.take_prefix k bs, rfl⟩
  | hold =>
    rw [writeBytes_hold bs h]
    exact .inl ⟨rfl, rfl⟩

theorem execPrimitive_oneEventMore {i : Instr} {s m : State} (hi : i.select.1 = .uop) (h : exec i s = .next m) :
    OneEventMore s m := by
  obtain ⟨cfg, -, -, rfl⟩ | ⟨bs, -, -, -, rfl⟩ | ⟨cap, timeout, -, -, -, rfl⟩ | ⟨-, -, -, rfl⟩ | ⟨ms, -, rfl⟩ :=
    execPrimitive_cases hi h
  · exact openPort_oneEventMore cfg s
  · exact writeBytes_oneEventMore bs s
  · exact oneEventMore_of_tx_eq rfl rfl nofun
  · exact oneEventMore_of_tx_eq rfl rfl nofun
  · exact oneEventMore_of_tx_eq rfl rfl nofun

/-- Settles O57: the primitive adds the event, and the engine's transition after it touches neither the trace nor
TX. -/
theorem traceMatchesLine : Obligations.TraceMatchesLine := by
  intro s t hu h
  obtain ⟨u, i, m, -, hd, hexec, hadv⟩ := step_request_cases hu h
  have hm : OneEventMore { s with uop := none } m := execPrimitive_oneEventMore (decodeUop_format hd) hexec
  have ht : t = m.withControl t := controlOnly_advance hadv
  rw [ht]
  exact hm

/-! ## No state is retained -/

/-- The start values leave no trace of what the engine's registers held. -/
theorem beginInvocation_eq {s s' : State} (h : SameButEngine s s') (op : Op) (mode : Mode) :
    s.beginInvocation op mode = s'.beginInvocation op mode := by
  obtain ⟨⟨hparams, hhost⟩, haddr, hopc, hbytes, ⟨hpayload, hrto, hexplen, hport⟩, hhandle,
    htx, hrx, hopens, hwrites, hreads, htick⟩ := h
  simp only [State.beginInvocation, hparams, hhost, haddr, hopc, hbytes, hpayload, hrto, hexplen, hport, hhandle,
    htx, hrx, hopens, hwrites, hreads, htick]

theorem startHandshake_eq {s s' : State} (h : SameButEngine s s') (op : Op) (mode : Mode) (ctrl : Byte) :
    startHandshake op mode ctrl s = startHandshake op mode ctrl s' := by
  have hport : s'.port = s.port := by
    obtain ⟨-, -, -, -, ⟨-, -, -, hport⟩, -⟩ := h
    exact hport
  rw [startHandshake, startHandshake, beginInvocation_eq h, hport]

theorem startRawsend_eq {s s' : State} (h : SameButEngine s s') (port : PortConfig) (payload : List Byte)
    (rto explen : Option Nat) :
    startRawsend port payload rto explen s = startRawsend port payload rto explen s' := by
  obtain ⟨hhost, haddr, hopc, hbytes, -, hrest⟩ := h
  have hlatched : SameButEngine { s with port := port, payload := payload, rto := rto, explen := explen }
      { s' with port := port, payload := payload, rto := rto, explen := explen } :=
    ⟨hhost, haddr, hopc, hbytes, ⟨rfl, rfl, rfl, rfl⟩, hrest⟩
  rw [startRawsend, startRawsend, beginInvocation_eq hlatched]

/-- Settles O31: after latching its operands an invocation goes through the start values. -/
theorem nothingRetained : Obligations.NothingRetained := by
  intro s s' i h hi
  obtain ⟨hhost, -, hopc, hbytes, ⟨hpayload, hrto, hexplen, -⟩, hrest⟩ := id h
  obtain ⟨port, _, _, _, hop⟩ | ⟨port, payload, rto, explen, rfl⟩ := hi
  · cases hop with
    | reset addr =>
      have hlatched : SameButEngine { s with addr := addr, port := port } { s' with addr := addr, port := port } :=
        ⟨hhost, rfl, hopc, hbytes, ⟨hpayload, hrto, hexplen, rfl⟩, hrest⟩
      simp only [exec, execReset, startHandshake_eq hlatched]
    | command addr opc =>
      have hlatched : SameButEngine { s with addr := addr, opc := opc, port := port }
          { s' with addr := addr, opc := opc, port := port } :=
        ⟨hhost, rfl, rfl, hbytes, ⟨hpayload, hrto, hexplen, rfl⟩, hrest⟩
      simp only [exec, execCommand, startHandshake_eq hlatched]
  · obtain ⟨hparams, -⟩ := hhost
    have hover : payloadOverlong s payload = payloadOverlong s' payload := by
      simp only [payloadOverlong, hparams]
    cases hp : portRefusal port with
    | some r => simp only [exec, execRawsend, hp]
    | none =>
      cases ho : payloadOverlong s' payload with
      | true => simp only [exec, execRawsend, hp, hover, ho, if_true]
      | false =>
        rw [execRawsend_runs rto explen hp (hover.trans ho), execRawsend_runs rto explen hp ho, startRawsend_eq h]

/-! ## Packed registers -/

/-- The flag at bit `i` of a packed word, with `low` below it and `high` above it. -/
theorem getLsbD_packed {w i low high : Nat} {b : Bool} (hi : i < w) (hlow : low < 2 ^ i) :
    (BitVec.ofNat w (low + 2 ^ i * (b.toNat + 2 * high))).getLsbD i = b := by
  rw [BitVec.getLsbD_ofNat, Nat.add_comm low, Nat.testBit_two_pow_mul_add _ hlow]
  cases b <;> simp [hi, Nat.testBit_zero]

/-- The field of `n` bits at bit `i` of a packed word, with `low` below it and `high` above it. -/
theorem toNat_extractLsb'_packed {w i n low x high : Nat} (hw : i + n ≤ w) (hlow : low < 2 ^ i)
    (hx : x < 2 ^ n) : ((BitVec.ofNat w (low + 2 ^ i * (x + 2 ^ n * high))).extractLsb' i n).toNat = x := by
  have hsplit : 2 ^ w = 2 ^ i * 2 ^ (w - i) := by rw [← Nat.pow_add]; congr 1; omega
  have hdvd : 2 ^ n ∣ 2 ^ (w - i) := Nat.pow_dvd_pow 2 (by omega)
  rw [BitVec.extractLsb'_toNat, BitVec.toNat_ofNat, Nat.shiftRight_eq_div_pow, hsplit, Nat.mod_mul_right_div_self,
    Nat.mod_mod_of_dvd _ hdvd, Nat.add_mul_div_left _ _ (Nat.two_pow_pos i), Nat.div_eq_of_lt hlow, Nat.zero_add,
    Nat.add_mul_mod_self_left, Nat.mod_eq_of_lt hx]

theorem Fsm.code_lt (f : Fsm) : f.code < 8 := by cases f <;> decide

/-- The number that STATUS holds, lowest field first. -/
def statusNumber (s : State) : Nat :=
  s.fsm.code + 8 * s.done.toNat + 16 * (acked s).toNat + 32 * (lastTimeout s).toNat + 64 * (lastNonack s).toNat
    + 256 * s.attempt

theorem statusWord_eq (s : State) : statusWord s = BitVec.ofNat 16 (statusNumber s) := rfl

theorem getLsbD_statusWord {s : State} {i low : Nat} {b : Bool} (high : Nat) (hi : i < 16) (hlow : low < 2 ^ i)
    (h : statusNumber s = low + 2 ^ i * (b.toNat + 2 * high)) : (statusWord s).getLsbD i = b := by
  rw [statusWord_eq, h, getLsbD_packed hi hlow]

theorem toNat_extractLsb'_statusWord {s : State} {i n low x : Nat} (high : Nat) (hw : i + n ≤ 16)
    (hlow : low < 2 ^ i) (hx : x < 2 ^ n) (h : statusNumber s = low + 2 ^ i * (x + 2 ^ n * high)) :
    ((statusWord s).extractLsb' i n).toNat = x := by
  rw [statusWord_eq, h, toNat_extractLsb'_packed hw hlow hx]

/-- CR8, field by field (30_encoding R79). -/
theorem statusWord_fields (s : State) :
    ((statusWord s).extractLsb' 0 3).toNat = s.fsm.code ∧ (statusWord s).getLsbD 3 = s.done ∧
    (statusWord s).getLsbD 4 = acked s ∧ (statusWord s).getLsbD 5 = lastTimeout s ∧
    (statusWord s).getLsbD 6 = lastNonack s ∧ (statusWord s).getLsbD 7 = false ∧
    (s.attempt < 256 → ((statusWord s).extractLsb' 8 8).toNat = s.attempt) := by
  have hfsm := s.fsm.code_lt
  have hdone := s.done.toNat_le
  have hacked := (acked s).toNat_le
  have htimeout := (lastTimeout s).toNat_le
  have hnonack := (lastNonack s).toNat_le
  have hnumber : statusNumber s = s.fsm.code + 8 * s.done.toNat + 16 * (acked s).toNat
      + 32 * (lastTimeout s).toNat + 64 * (lastNonack s).toNat + 256 * s.attempt := rfl
  have hfalse : false.toNat = 0 := rfl
  refine ⟨?_, ?_, ?_, ?_, ?_, ?_, fun hattempt => ?_⟩
  · apply toNat_extractLsb'_statusWord (low := 0) (s.done.toNat + 2 * (acked s).toNat
      + 4 * (lastTimeout s).toNat + 8 * (lastNonack s).toNat + 32 * s.attempt)
    all_goals omega
  · apply getLsbD_statusWord (low := s.fsm.code) ((acked s).toNat + 2 * (lastTimeout s).toNat
      + 4 * (lastNonack s).toNat + 16 * s.attempt)
    all_goals omega
  · apply getLsbD_statusWord (low := s.fsm.code + 8 * s.done.toNat) ((lastTimeout s).toNat
      + 2 * (lastNonack s).toNat + 8 * s.attempt)
    all_goals omega
  · apply getLsbD_statusWord (low := s.fsm.code + 8 * s.done.toNat + 16 * (acked s).toNat)
      ((lastNonack s).toNat + 4 * s.attempt)
    all_goals omega
  · apply getLsbD_statusWord (low := s.fsm.code + 8 * s.done.toNat + 16 * (acked s).toNat
      + 32 * (lastTimeout s).toNat) (2 * s.attempt)
    all_goals omega
  · apply getLsbD_statusWord (low := s.fsm.code + 8 * s.done.toNat + 16 * (acked s).toNat
      + 32 * (lastTimeout s).toNat + 64 * (lastNonack s).toNat) s.attempt
    all_goals omega
  · apply toNat_extractLsb'_statusWord (low := s.fsm.code + 8 * s.done.toNat + 16 * (acked s).toNat
      + 32 * (lastTimeout s).toNat + 64 * (lastNonack s).toNat) 0
    all_goals omega

/-- CR9 for a byte that is no ACK: the tag and the byte (30_encoding R80). -/
theorem outcomeWord_notAcknowledged {s : State} {bs : List Byte} (h : s.outcome = some (.notAcknowledged bs)) :
    (outcomeWord s).extractLsb' 0 3 = 2#3 ∧ (outcomeWord s).extractLsb' 8 8 = bs.headD 0 := by
  have hword : outcomeWord s = BitVec.ofNat 16 (2 + 256 * (bs.headD 0).toNat) := by simp [outcomeWord, h]
  have hbyte := (bs.headD 0).isLt
  constructor <;> apply BitVec.eq_of_toNat_eq
  · have htag : 2 + 256 * (bs.headD 0).toNat = 0 + 2 ^ 0 * (2 + 2 ^ 3 * (32 * (bs.headD 0).toNat)) := by omega
    rw [hword, htag, toNat_extractLsb'_packed (by decide) (by decide) (by decide)]
    rfl
  · have hfield : 2 + 256 * (bs.headD 0).toNat = 2 + 2 ^ 8 * ((bs.headD 0).toNat + 2 ^ 8 * 0) := by omega
    rw [hword, hfield, toNat_extractLsb'_packed (by decide) (by decide) hbyte]

theorem lastNonack_iff (s : State) :
    lastNonack s = true ↔ ∃ bs, s.lastrx = some (.data bs) ∧ bs ≠ [0x00#8] := by
  cases h : s.lastrx with
  | none => simp [lastNonack, h]
  | some r =>
    cases r with
    | data bs =>
      simp only [lastNonack, h, decide_eq_true_iff]
      simp [Config.ackByte]
    | timedOut | readError c => simp [lastNonack, h]

/-- Settles O59, register by register. -/
theorem statusRegister : Obligations.StatusRegister := by
  intro s
  obtain ⟨hfsm, hdone, hacked, htimeout, hnonack, hzero, hattempt⟩ := statusWord_fields s
  refine ⟨decide_eq_true_iff, decide_eq_true_iff, lastNonack_iff s, ?_, hdone, hacked, htimeout, hnonack, hzero,
    hattempt, ?_, ?_, ?_, Nat.mod_eq_of_lt, Nat.mod_eq_of_lt, Nat.mod_eq_of_lt⟩
  · apply BitVec.eq_of_toNat_eq
    rw [hfsm]
    cases s.fsm <;> rfl
  · cases ho : s.outcome with
    | none => simp [outcomeWord, ho]
    | some o =>
      cases o with
      | notAcknowledged bs => exact (outcomeWord_notAcknowledged ho).1
      | acknowledged | timedOut | transportError c => simp [outcomeWord, ho]
  · intro b hb
    exact (outcomeWord_notAcknowledged hb).2
  · unfold errorCode
    cases s.error with
    | none => rfl
    | some e => cases e <;> rfl

/-- Settles O1, by evaluating the reset state. -/
theorem resetState : Obligations.ResetState := by
  unfold Obligations.ResetState
  decide

/-- Settles O50: the block is at rest in Idle, with the generator's registers 0. -/
theorem invariantAtReset : Obligations.InvariantAtReset :=
  (engineInv_iff _).mpr ⟨⟨by decide, by decide, by decide, fun _ => rfl⟩, .inl ⟨rfl, rfl⟩⟩

end Sys2Proof.Machine
end

section
/-! The family of 20_memory: which request a step runs, the frame on the wire, and the streams TX and RX. -/

namespace Sys2Proof.Machine

/-! ## Requests -/

/-- A step with none outstanding and an invocation presented by a caller that did not wait. -/
theorem step_overlap {s : State} {r : HostRegs} {rest : List HostEvent} {i : Instr} (hu : s.uop = none)
    (hh : s.host = .overlap r :: rest) (hd : decodeHost r = .ok i) :
    step s = exec i { s with host := rest } := by
  simp [step, fetch, hu, hh, fetchInvocation, hd]

/-- Settles O3, by the fetch of each kind of request. -/
theorem stepRunsRequest : Obligations.StepRunsRequest := by
  refine ⟨fun s r rest i hu hh hd => ?_, fun s u i hu hi hd => step_primitive hu hi hd⟩
  obtain hinvoke | hoverlap := hh
  · exact step_invocation hu hinvoke hd
  · exact step_overlap hu hoverlap hd

/-! ## The frame on the wire -/

/-- Settles O22: a frame is its payload and then the checksum, and a write answered Ok puts it whole at the end
of TX. -/
theorem frameOnWire : Obligations.FrameOnWire := by
  intro s cfg payload ho hw
  have htx : (writeBytes (buildFrame payload) s).tx = s.tx ++ buildFrame payload := by
    rw [writeBytes_ok _ hw]
  refine ⟨_, execTWrite_runs (buildFrame payload) ho, htx.trans ?_⟩
  rw [List.append_assoc]
  rfl

/-! ## The streams -/

/-- What was transmitted and consumed in `s` is an initial part of what is transmitted and consumed in `t`. -/
def StreamsExtend (s t : State) : Prop := s.tx <+: t.tx ∧ s.rx <+: t.rx

theorem StreamsExtend.of_eq {s t : State} (htx : t.tx = s.tx) (hrx : t.rx = s.rx) : StreamsExtend s t :=
  ⟨htx ▸ List.prefix_rfl, hrx ▸ List.prefix_rfl⟩

theorem openPort_streamsExtend (cfg : PortConfig) (s : State) : StreamsExtend s (openPort cfg s) := by
  cases h : openAnswer s with
  | ok =>
    rw [openPort_ok cfg h]
    exact .of_eq rfl rfl
  | err c =>
    rw [openPort_err cfg h]
    exact .of_eq rfl rfl
  | hold =>
    rw [openPort_hold cfg h]
    exact .of_eq rfl rfl

theorem writeBytes_streamsExtend (bs : List Byte) (s : State) : StreamsExtend s (writeBytes bs s) := by
  cases h : writeAnswer s with
  | ok =>
    rw [writeBytes_ok bs h]
    exact ⟨List.prefix_append .., List.prefix_rfl⟩
  | err c k =>
    rw [writeBytes_err bs h]
    exact ⟨List.prefix_append .., List.prefix_rfl⟩
  | hold =>
    rw [writeBytes_hold bs h]
    exact .of_eq rfl rfl

theorem readBytes_streamsExtend (cap timeout : Nat) (s : State) : StreamsExtend s (readBytes cap timeout s) := by
  rw [readBytes_eq]
  exact ⟨List.prefix_rfl, List.prefix_append ..⟩

theorem execPrimitive_streamsExtend {i : Instr} {s m : State} (hi : i.select.1 = .uop)
    (h : exec i s = .next m) : StreamsExtend s m := by
  obtain ⟨cfg, -, -, rfl⟩ | ⟨bs, -, -, -, rfl⟩ | ⟨cap, timeout, -, -, -, rfl⟩ | ⟨-, -, -, rfl⟩ | ⟨ms, -, rfl⟩ :=
    execPrimitive_cases hi h
  · exact openPort_streamsExtend cfg s
  · exact writeBytes_streamsExtend bs s
  · exact readBytes_streamsExtend cap timeout s
  · exact .of_eq rfl rfl
  · exact .of_eq rfl rfl

/-- Settles O55: an invocation's start leaves both streams alone, a primitive only appends to them, and the
engine's transition after it touches neither. -/
theorem streamsAppendOnly : Obligations.StreamsAppendOnly := by
  intro s t h
  by_cases hu : s.uop = none
  · obtain ⟨i, rest, hi, hexec⟩ | ⟨rest, rfl⟩ := step_noRequest_cases hu h
    · obtain ⟨-, -, htx, hrx, -⟩ := execInvocation_frame hi hexec
      exact StreamsExtend.of_eq htx hrx
    · exact StreamsExtend.of_eq rfl rfl
  · obtain ⟨u, i, m, -, hd, hexec, hadv⟩ := step_request_cases hu h
    have hm : StreamsExtend { s with uop := none } m := execPrimitive_streamsExtend (decodeUop_format hd) hexec
    have ht : t = m.withControl t := controlOnly_advance hadv
    rw [ht]
    exact hm

end Sys2Proof.Machine
end

section
/-! The family of 30_encoding: the decoder and the encoder undo each other, the reserved codes, the control byte
and the frame. -/

namespace Sys2Proof

/-! ## The codes of CFG -/

theorem DataBits.code_lt (d : DataBits) : d.code < 4 := by cases d <;> decide

theorem Parity.code_lt (p : Parity) : p.code < 4 := by cases p <;> decide

theorem FlowControl.code_lt (f : FlowControl) : f.code < 4 := by cases f <;> decide

theorem StopBits.code_eq_toNat (b : StopBits) : b.code = (decide (b = .two)).toNat := by cases b <;> rfl

end Sys2Proof

namespace Sys2Proof.Machine

/-! ## The fields of CFG -/

theorem decodeDataBits_of_code {c : BitVec 2} {d : DataBits} (h : c.toNat = d.code) : decodeDataBits c = d := by
  cases d <;> simp [decodeDataBits, h, DataBits.code]

theorem decodeParity_of_code {c : BitVec 2} {p : Parity} (h : c.toNat = p.code) : decodeParity c = .ok p := by
  cases p <;> simp [decodeParity, h, Parity.code]

theorem decodeFlow_of_code {c : BitVec 2} {f : FlowControl} (h : c.toNat = f.code) : decodeFlow c = .ok f := by
  cases f <;> simp [decodeFlow, h, FlowControl.code]

theorem decodeStopBits_decide (b : StopBits) : decodeStopBits (decide (b = .two)) = b := by cases b <;> rfl

/-- CFG, field by field (30_encoding R78). -/
theorem encodeCfg_fields (p : PortConfig) :
    ((encodeCfg p).extractLsb' 0 2).toNat = p.dataBits.code ∧
    ((encodeCfg p).extractLsb' 2 2).toNat = p.parity.code ∧
    (encodeCfg p).getLsbD 4 = decide (p.stopBits = .two) ∧
    ((encodeCfg p).extractLsb' 5 2).toNat = p.flow.code := by
  have hdata := p.dataBits.code_lt
  have hparity := p.parity.code_lt
  have hstop := p.stopBits.code_eq_toNat
  have hstop_le := (decide (p.stopBits = .two)).toNat_le
  have hflow := p.flow.code_lt
  have hcfg : ∀ n, p.dataBits.code + 4 * p.parity.code + 16 * p.stopBits.code + 32 * p.flow.code = n →
      encodeCfg p = BitVec.ofNat 8 n := fun n h => congrArg (BitVec.ofNat 8) h
  refine ⟨?_, ?_, ?_, ?_⟩
  · rw [hcfg (0 + 2 ^ 0 * (p.dataBits.code + 2 ^ 2 * (p.parity.code + 4 * p.stopBits.code + 8 * p.flow.code)))
      (by omega)]
    exact toNat_extractLsb'_packed (by decide) (by decide) hdata
  · rw [hcfg (p.dataBits.code + 2 ^ 2 * (p.parity.code + 2 ^ 2 * (p.stopBits.code + 2 * p.flow.code))) (by omega)]
    exact toNat_extractLsb'_packed (by decide) hdata hparity
  · rw [hcfg (p.dataBits.code + 4 * p.parity.code + 2 ^ 4 * ((decide (p.stopBits = .two)).toNat + 2 * p.flow.code))
      (by omega)]
    exact getLsbD_packed (by decide) (by omega)
  · rw [hcfg (p.dataBits.code + 4 * p.parity.code + 16 * p.stopBits.code + 2 ^ 5 * (p.flow.code + 2 ^ 2 * 0))
      (by omega)]
    exact toNat_extractLsb'_packed (by decide) (by omega) hflow

/-! ## The operands -/

/-- PORT with the given parity and flow control, and every other field from its register (30_encoding R78,
41_transport R118). -/
def portWith (r : HostRegs) (parity : Parity) (flow : FlowControl) : PortConfig :=
  { id := r.portId, baud := r.baud.toNat, dataBits := decodeDataBits (r.cfg.extractLsb' 0 2), parity := parity,
    stopBits := decodeStopBits (r.cfg.getLsbD 4), flow := flow,
    readTimeout := r.readTimeout.elim Config.serialReadTimeoutDefaultMs BitVec.toNat }

theorem decodePort_of_codes {r : HostRegs} {parity : Parity} {flow : FlowControl}
    (hparity : decodeParity (r.cfg.extractLsb' 2 2) = .ok parity)
    (hflow : decodeFlow (r.cfg.extractLsb' 5 2) = .ok flow) : decodePort r = .ok (portWith r parity flow) := by
  simp only [decodePort, hparity, hflow, portWith]
  cases r.readTimeout <;> rfl

/-- A PORT is decoded only where the codes of parity and flow control are. -/
theorem decodePort_cases {r : HostRegs} {p : PortConfig} (h : decodePort r = .ok p) :
    ∃ parity flow, decodeParity (r.cfg.extractLsb' 2 2) = .ok parity ∧
      decodeFlow (r.cfg.extractLsb' 5 2) = .ok flow ∧ p = portWith r parity flow := by
  cases hparity : decodeParity (r.cfg.extractLsb' 2 2) with
  | error e => simp [decodePort, hparity] at h
  | ok parity =>
    cases hflow : decodeFlow (r.cfg.extractLsb' 5 2) with
    | error e => simp [decodePort, hparity, hflow] at h
    | ok flow =>
      rw [decodePort_of_codes hparity hflow] at h
      cases h
      exact ⟨parity, flow, rfl, rfl, rfl⟩

theorem portWith_encodePort (op : BitVec 4) {p : PortConfig} (h : p.wellFormed = true) :
    portWith (encodePort op p) p.parity p.flow = p := by
  obtain ⟨hdata, -, hstop, -⟩ := encodeCfg_fields p
  simp only [PortConfig.wellFormed, Bool.and_eq_true, decide_eq_true_eq] at h
  obtain ⟨hbaud, htimeout⟩ := h
  simp only [portWith, encodePort, decodeDataBits_of_code hdata, hstop, decodeStopBits_decide, Option.elim_some,
    BitVec.toNat_ofNat, Nat.mod_eq_of_lt hbaud, Nat.mod_eq_of_lt htimeout]

theorem decodePort_encodePort (op : BitVec 4) {p : PortConfig} (h : p.wellFormed = true) :
    decodePort (encodePort op p) = .ok p := by
  obtain ⟨-, hparity, -, hflow⟩ := encodeCfg_fields p
  calc decodePort (encodePort op p)
      = .ok (portWith (encodePort op p) p.parity p.flow) :=
        decodePort_of_codes (decodeParity_of_code hparity) (decodeFlow_of_code hflow)
    _ = .ok p := by rw [portWith_encodePort op h]

theorem decodeOptional_encodeOptional {o : Option Nat} (h : optionWellFormed o = true) :
    decodeOptional (encodeOptional o) = o := by
  cases o with
  | none => rfl
  | some n =>
    have hn : n < 2 ^ 31 := decide_eq_true_eq.mp h
    have hpresent : (encodeOptional (some n)).getLsbD 31 = true := by
      have hword : 2 ^ 31 + n = n + 2 ^ 31 * (true.toNat + 2 * 0) := by rw [Bool.toNat_true]; omega
      rw [encodeOptional, hword, getLsbD_packed (by decide) hn]
    have hvalue : ((encodeOptional (some n)).extractLsb' 0 31).toNat = n := by
      have hword : 2 ^ 31 + n = 0 + 2 ^ 0 * (n + 2 ^ 31 * 1) := by omega
      rw [encodeOptional, hword, toNat_extractLsb'_packed (by decide) (by decide) hn]
    rw [decodeOptional, hpresent, hvalue, if_pos rfl]

theorem withPort_ok {r : HostRegs} {p : PortConfig} (h : decodePort r = .ok p) (f : PortConfig → Instr) :
    withPort r f = .ok (f p) := by
  simp only [withPort, h]

/-- Settles O5, by cases on the operation: PORT comes back field by field from CFG, BAUD and READ_TIMEOUT_MS, the
optional values from their presence bits, and every other operand stands in a register of its own. -/
theorem decodeEncode : Obligations.DecodeEncode := by
  intro i hi
  cases i with
  | reset addr port => exact withPort_ok (decodePort_encodePort 0 hi) fun p => .reset addr p
  | command addr opc port => exact withPort_ok (decodePort_encodePort 1 hi) fun p => .command addr opc p
  | rawsend port payload rto explen =>
    simp only [Instr.wellFormed, Bool.and_eq_true] at hi
    obtain ⟨⟨hport, hrto⟩, hexplen⟩ := hi
    have hdecode : decode (encode (.rawsend port payload rto explen)) = .ok (.rawsend port payload
        (decodeOptional (encodeOptional rto)) (decodeOptional (encodeOptional explen))) :=
      withPort_ok (decodePort_encodePort 2 hport) fun p => .rawsend p payload _ _
    rw [hdecode, decodeOptional_encodeOptional hrto, decodeOptional_encodeOptional hexplen]
  | tWrite bytes => exact decode_writeRequest (by simpa [Instr.wellFormed] using hi)
  | tRead cap timeout => exact decode_readRequest timeout (Nat.ne_of_gt (by simpa [Instr.wellFormed] using hi))
  | _ => rfl

/-! ## What the decoder accepts -/

/-- An operation with a PORT operand is decoded only where PORT is. -/
theorem withPort_cases {r : HostRegs} {f : PortConfig → Instr} {i : Instr} (h : withPort r f = .ok i) :
    ∃ p, decodePort r = .ok p ∧ i = f p := by
  unfold withPort at h
  split at h
  case h_1 p hp => cases h; exact ⟨p, hp, rfl⟩
  case h_2 => cases h

theorem decodePort_wellFormed {r : HostRegs} {p : PortConfig} (h : decodePort r = .ok p) : p.wellFormed = true := by
  obtain ⟨parity, flow, -, -, rfl⟩ := decodePort_cases h
  have htimeout : r.readTimeout.elim Config.serialReadTimeoutDefaultMs BitVec.toNat < 2 ^ 32 := by
    cases r.readTimeout with
    | none => decide
    | some t => exact t.isLt
  exact Bool.and_eq_true_iff.mpr ⟨decide_eq_true r.baud.isLt, decide_eq_true htimeout⟩

theorem decodeOptional_wellFormed (w : BitVec 32) : optionWellFormed (decodeOptional w) = true := by
  unfold decodeOptional
  split
  · exact decide_eq_true (BitVec.isLt _)
  · rfl

theorem decodeHost_wellFormed {r : HostRegs} {i : Instr} (h : decodeHost r = .ok i) : i.wellFormed = true := by
  unfold decodeHost at h
  split at h
  case h_1 | h_2 =>
    obtain ⟨p, hp, rfl⟩ := withPort_cases h
    exact decodePort_wellFormed hp
  case h_3 =>
    obtain ⟨p, hp, rfl⟩ := withPort_cases h
    simp [Instr.wellFormed, decodePort_wellFormed hp, decodeOptional_wellFormed]
  all_goals cases h
  all_goals rfl

theorem decodeUop_wellFormed {u : UopRegs} {i : Instr} (h : decodeUop u = .ok i) : i.wellFormed = true := by
  unfold decodeUop at h
  split at h
  case h_2 =>
    split at h
    case isTrue => cases h
    case isFalse hne => cases h; simp [Instr.wellFormed, hne]
  case h_3 =>
    split at h
    case isTrue => cases h
    case isFalse hne => cases h; simp [Instr.wellFormed, Nat.pos_of_ne_zero hne]
  all_goals cases h
  all_goals rfl

/-- Settles O6, by the two formats. -/
theorem decodeWellFormed : Obligations.DecodeWellFormed := by
  intro r i h
  cases r with
  | host r => exact decodeHost_wellFormed h
  | uop u => exact decodeUop_wellFormed h

/-! ## Reserved codes -/

theorem decodeHost_reservedOp {r : HostRegs} (h : 10 ≤ r.op.toNat) : decodeHost r = .error (.reservedOp r.op) := by
  unfold decodeHost
  split
  case h_11 => rfl
  all_goals omega

theorem decodeUop_reservedUop {u : UopRegs} (h : 5 ≤ u.code.toNat) : decodeUop u = .error (.reservedUop u.code) := by
  unfold decodeUop
  split
  case h_6 => rfl
  all_goals omega

/-- The serial operations need PORT. -/
theorem decodeHost_portError {r : HostRegs} {e : DecodeError} (hop : r.op.toNat ≤ 2) (h : decodePort r = .error e) :
    decodeHost r = .error e := by
  have hserial : r.op.toNat = 0 ∨ r.op.toNat = 1 ∨ r.op.toNat = 2 := by omega
  obtain hop | hop | hop := hserial <;> simp only [decodeHost, hop, withPort, h]

theorem decodeParity_ok_of_ne {c : BitVec 2} (h : c ≠ 3#2) : ∃ p, decodeParity c = .ok p := by
  have hcode : c.toNat = 0 ∨ c.toNat = 1 ∨ c.toNat = 2 := by bv_omega
  obtain h | h | h := hcode <;> exact ⟨_, by simp only [decodeParity, h]; rfl⟩

theorem decodePort_reservedParity {r : HostRegs} (h : r.cfg.extractLsb' 2 2 = 3#2) :
    decodePort r = .error .reservedParity := by
  have hparity : decodeParity 3#2 = .error .reservedParity := rfl
  simp only [decodePort, h, hparity]

theorem decodePort_reservedFlow {r : HostRegs} (hparity : r.cfg.extractLsb' 2 2 ≠ 3#2)
    (h : r.cfg.extractLsb' 5 2 = 3#2) : decodePort r = .error .reservedFlow := by
  obtain ⟨p, hp⟩ := decodeParity_ok_of_ne hparity
  have hflow : decodeFlow 3#2 = .error .reservedFlow := rfl
  simp only [decodePort, hp, h, hflow]

/-- Settles O7: each reserved code falls to the last case of its table. -/
theorem reservedCodes : Obligations.ReservedCodes :=
  ⟨fun _ h => decodeHost_reservedOp h, fun _ h => decodeUop_reservedUop h,
    fun _ hop h => decodeHost_portError hop (decodePort_reservedParity h),
    fun _ hop hparity h => decodeHost_portError hop (decodePort_reservedFlow hparity h)⟩

/-- Settles O8, by evaluating the decoder at each word. -/
theorem specWords : Obligations.SpecWords := by
  unfold Obligations.SpecWords
  decide

/-! ## The control byte -/

/-- The control byte is the address's upper nibble and then the opcode (30_encoding R81). -/
theorem packCtrl_eq_append (a : Byte) (o : Nibble) : packCtrl a o = a.extractLsb' 4 4 ++ o := by
  have haddr : a = a.extractLsb' 4 4 ++ a.extractLsb' 0 4 :=
    (BitVec.extractLsb'_append_extractLsb' (w := 4) (len := 4)).symm
  have hmask : Config.addrMask = BitVec.allOnes 4 ++ 0#4 := rfl
  have hopc : o.setWidth 8 = 0#4 ++ o := BitVec.setWidth_eq_append (by decide)
  calc packCtrl a o
      = (a.extractLsb' 4 4 ++ a.extractLsb' 0 4) &&& (BitVec.allOnes 4 ++ 0#4) ||| (0#4 ++ o) := by
        rw [← haddr, ← hmask, ← hopc, packCtrl]
    _ = a.extractLsb' 4 4 ++ o := by
        rw [BitVec.and_append, BitVec.or_append, BitVec.and_allOnes, BitVec.and_zero, BitVec.or_zero, BitVec.zero_or]

theorem packCtrl_toNat (a : Byte) (o : Nibble) :
    (packCtrl a o).toNat = 2 ^ 4 * (a.extractLsb' 4 4).toNat + o.toNat := by
  rw [packCtrl_eq_append, BitVec.toNat_append, ← Nat.shiftLeft_add_eq_or_of_lt o.isLt, Nat.shiftLeft_eq, Nat.mul_comm]

/-- The masked address is the control byte of opcode 0. -/
theorem packCtrl_zero (a : Byte) : packCtrl a 0 = a &&& 0xF0#8 := BitVec.or_zero

/-- Settles O12: each clause reads the control byte as two nibbles. -/
theorem controlByte : Obligations.ControlByte := by
  intro a o
  refine ⟨rfl, ?_, ?_, ?_, fun b hb => ?_⟩
  · rw [packCtrl_eq_append, BitVec.extractLsb'_append_eq_left]
  · rw [packCtrl_eq_append, BitVec.extractLsb'_append_eq_right]
  · rw [← packCtrl_zero, packCtrl_toNat, packCtrl_toNat]
    rfl
  · rw [packCtrl_eq_append, packCtrl_eq_append, hb]

/-! ## The frame -/

/-- SUM is the sum of the bytes, reduced to its width (40_codec R91, R92). -/
theorem runningSum_eq (w : Nat) (bs : List Byte) : runningSum w bs = byteSum bs % 2 ^ w := by
  rw [← Nat.mod_eq_of_lt (runningSum_lt w bs), runningSum, foldl_accumulate, Nat.zero_add]

/-- What CHECKSUM and BUILD_FRAME leave: the operand latched, the generator run over it, the result written. -/
def State.checksummed (s : State) (bs : List Byte) (op : Op) (r : Result) : State :=
  ({ s with bytes := bs }.runChecksum bs).finishCodec op r

/-- CHECKSUM and BUILD_FRAME write no other register, and leave the port, the streams and the line (40_codec R90). -/
theorem checksummed_frame (s : State) (bs : List Byte) (op : Op) (r : Result) :
    SameHost s (s.checksummed bs op r) ∧ (s.checksummed bs op r).addr = s.addr ∧
    (s.checksummed bs op r).opc = s.opc ∧ SameSerialLatches s (s.checksummed bs op r) ∧
    SameEngine s (s.checksummed bs op r) ∧ SameLine s (s.checksummed bs op r) := by
  simp [SameHost, SameSerialLatches, SameEngine, SameLine, State.checksummed]

/-- Settles O16: BUILD_FRAME runs the generator over its operand, and what it appends is CHK. -/
theorem buildFrameCompletes : Obligations.BuildFrameCompletes := by
  intro s b
  have hframe : Result.frame (b ++ [(s.runChecksum b).chk]) = .frame (buildFrame b) :=
    congrArg Result.frame (append_chk_runChecksum s b)
  exact ⟨s.checksummed b .buildFrame (.frame (b ++ [(s.runChecksum b).chk])), rfl, runningSum_eq _ b, rfl, rfl,
    hframe, buildFrame_length b, rfl, rfl, rfl, rfl, checksummed_frame s b _ _⟩

end Sys2Proof.Machine
end

section
/-! The family of 40_codec: the laws of the checksum and of the control byte, and what each codec function does
when it is invoked alone. -/

namespace Sys2Proof.Machine

/-! ## The checksum -/

/-- A byte is at most 255. -/
theorem byteSum_le (bs : List Byte) : byteSum bs ≤ 255 * bs.length := by
  induction bs with
  | nil => exact Nat.le_refl 0
  | cons b bs ih =>
    have hb : b.toNat < 2 ^ 8 := b.isLt
    rw [byteSum_cons, List.length_cons]
    omega

theorem byteSum_eq_sum (bs : List Byte) : byteSum bs = (bs.map BitVec.toNat).sum := by
  induction bs with
  | nil => rfl
  | cons b bs ih => rw [byteSum_cons, ih, List.map_cons, List.sum_cons]

theorem byteSum_perm {a b : List Byte} (h : a.Perm b) : byteSum a = byteSum b := by
  rw [byteSum_eq_sum, byteSum_eq_sum]
  exact (h.map BitVec.toNat).sum_nat

theorem checksum_toNat (bs : List Byte) : (checksum bs).toNat = byteSum bs % 256 := BitVec.toNat_ofNat ..

theorem checksum_append (a b : List Byte) : checksum (a ++ b) = checksum a + checksum b := by
  rw [checksum, byteSum_append, BitVec.ofNat_add, checksum, checksum]

@[simp] theorem checksum_singleton (c : Byte) : checksum [c] = c := BitVec.eq_of_toNat_eq (by
  rw [checksum_toNat, byteSum_cons, byteSum_nil, Nat.add_zero, Nat.mod_eq_of_lt c.isLt])

/-- Settles O10: SUM is the sum mod 2 ^ w, whose low byte is the checksum, and 257 bytes sum to less than 2 ^ 16. -/
theorem checksumWidthFree : Obligations.ChecksumWidthFree := by
  refine ⟨runningSum_eq, fun w bs hw => ⟨ofNat_runningSum hw bs, checksum_toNat bs⟩, fun bs hlen => ?_⟩
  have hsum : byteSum bs < 2 ^ 16 := by
    have hle := byteSum_le bs
    omega
  rw [runningSum_eq, Nat.mod_eq_of_lt hsum]

/-- Settles O11: the sum does not depend on the order, and the checksum adds over concatenation. -/
theorem checksumLaws : Obligations.ChecksumLaws := by
  refine ⟨fun a b h => ?_, checksum_append, fun a => ?_, fun a => ?_, fun a b h => ?_⟩
  · rw [checksum, byteSum_perm h, checksum]
  · rw [checksum_append, checksum_singleton, BitVec.add_zero]
  · rw [buildFrame, checksum_append, checksum_singleton]
  · exact BitVec.eq_of_toNat_eq (by rw [checksum_toNat, checksum_toNat, h])

/-! ## The control byte -/

theorem packCtrl_upper (a : Byte) (o : Nibble) : (packCtrl a o).extractLsb' 4 4 = a.extractLsb' 4 4 := by
  rw [packCtrl_eq_append, BitVec.extractLsb'_append_eq_left]

theorem packCtrl_lower (a : Byte) (o : Nibble) : (packCtrl a o).extractLsb' 0 4 = o := by
  rw [packCtrl_eq_append, BitVec.extractLsb'_append_eq_right]

theorem packCtrl_xor_zero (a : Byte) (o : Nibble) : packCtrl a o ^^^ packCtrl a 0 = o.setWidth 8 := by
  have hopc : o.setWidth 8 = 0#4 ++ o := BitVec.setWidth_eq_append (by decide)
  rw [packCtrl_eq_append, packCtrl_eq_append, BitVec.xor_append, BitVec.xor_self, hopc]
  exact congrArg (0#4 ++ ·) BitVec.xor_zero

/-- The opcode is added to the control byte of opcode 0 without a carry. -/
theorem packCtrl_sub_zero (a : Byte) (o : Nibble) : packCtrl a o - packCtrl a 0 = o.setWidth 8 := by
  have hopc := packCtrl_toNat a o
  have hzero := packCtrl_toNat a 0
  bv_omega

/-- Settles O13: the upper nibble of a control byte is the address's, the lower nibble is the opcode. -/
theorem packCtrlLaws : Obligations.PackCtrlLaws := by
  refine ⟨fun o => ⟨?_, rfl⟩, fun a o => ⟨packCtrl_xor_zero a o, packCtrl_sub_zero a o, ?_⟩, fun a b o h => ⟨?_, ?_⟩⟩
  · obtain ⟨-, -, -, -, hlow⟩ := controlByte 0x1F o
    exact hlow 0x10 (by decide)
  · rw [packCtrl_upper, packCtrl_upper]
  · rwa [packCtrl_upper, packCtrl_upper]
  · rw [packCtrl_lower, packCtrl_lower]

/-! ## Verification -/

@[simp] theorem verifyChecksum_nil : verifyChecksum [] = false := rfl

@[simp] theorem verifyChecksum_concat (b : List Byte) (c : Byte) :
    verifyChecksum (b ++ [c]) = (checksum b == c) := by
  simp [verifyChecksum]

theorem verifyChecksum_iff (f : List Byte) : verifyChecksum f = true ↔ ∃ b c, f = b ++ [c] ∧ c = checksum b := by
  constructor
  · intro h
    obtain rfl | ⟨b, c, rfl⟩ := f.eq_nil_or_concat'
    · cases h
    · rw [verifyChecksum_concat, beq_iff_eq] at h
      exact ⟨b, c, rfl, h.symm⟩
  · rintro ⟨b, c, rfl, rfl⟩
    rw [verifyChecksum_concat, beq_self_eq_true]

/-- Settles O14: a built frame is its bytes followed by their checksum. -/
theorem verifyAcceptsFrames : Obligations.VerifyAcceptsFrames := by
  intro f
  rw [verifyChecksum_iff]
  constructor
  · rintro ⟨b, c, rfl, rfl⟩
    exact ⟨b, rfl⟩
  · rintro ⟨b, rfl⟩
    exact ⟨b, checksum b, rfl, rfl⟩

/-! ## The functions invoked alone -/

/-- What no codec function invoked alone writes (40_codec R90). -/
theorem withCodec_frame (s c : State) :
    SameHost s (s.withCodec c) ∧ SameSerialLatches s (s.withCodec c) ∧ SameEngine s (s.withCodec c) ∧
    SameLine s (s.withCodec c) := by
  simp [SameHost, SameSerialLatches, SameEngine, SameLine, State.withCodec]

/-- CHK after the generator has run is the checksum. -/
theorem runChecksum_chk_eq_checksum (s : State) (bs : List Byte) : (s.runChecksum bs).chk = checksum bs :=
  ofNat_runningSum (Nat.le_trans (by decide) (Nat.le_add_right 16 _)) bs

/-- Settles O15: CHECKSUM runs the generator over its operand, and its result is CHK. -/
theorem checksumCompletes : Obligations.ChecksumCompletes := by
  intro s b
  have hchk : (s.runChecksum b).chk = checksum b := runChecksum_chk_eq_checksum s b
  have hmod : checksum b = BitVec.ofNat 8 (byteSum b % 256) := by
    rw [← checksum_toNat, BitVec.ofNat_toNat, BitVec.setWidth_eq]
  exact ⟨s.checksummed b .checksum (.byte (s.runChecksum b).chk), rfl, congrArg Result.byte (hchk.trans hmod), rfl,
    rfl, rfl, rfl, runningSum_eq _ b, hchk, checksummed_frame s b _ _⟩

/-- Settles O17: the generator does not run, and ADDR and OPC are latched. -/
theorem packCtrlCompletes : Obligations.PackCtrlCompletes := by
  intro s a o
  obtain ⟨hhost, hframe⟩ := withCodec_frame s
    ({ s with addr := a, opc := o }.finishCodec .packCtrl (.byte (packCtrl a o)))
  exact ⟨_, rfl, rfl, rfl, rfl, rfl, rfl, rfl, hhost, rfl, rfl, rfl, hframe⟩

/-- What IS_ACK, DECODE_RESPONSE and VERIFY_CHECKSUM of the empty sequence leave: the operand latched and the result
written. -/
def State.inspected (s : State) (bs : List Byte) (op : Op) (r : Result) : State :=
  { s with bytes := bs }.finishCodec op r

/-- The generator does not run, and no other register is written (40_codec R90). -/
theorem inspected_frame (s : State) (bs : List Byte) (op : Op) (r : Result) :
    (s.inspected bs op r).sum = s.sum ∧ (s.inspected bs op r).chk = s.chk ∧
    SameHost s (s.inspected bs op r) ∧ (s.inspected bs op r).addr = s.addr ∧
    (s.inspected bs op r).opc = s.opc ∧ SameSerialLatches s (s.inspected bs op r) ∧
    SameEngine s (s.inspected bs op r) ∧ SameLine s (s.inspected bs op r) := by
  obtain ⟨hhost, hframe⟩ := withCodec_frame s (s.inspected bs op r)
  exact ⟨rfl, rfl, hhost, rfl, rfl, hframe⟩

theorem isAck_eq_decide (bs : List Byte) : isAck bs = decide (bs = [0x00#8]) := by
  rw [Bool.eq_iff_iff, isAck_iff, decide_eq_true_iff]

/-- Settles O18: both functions inspect their operand and run no generator. -/
theorem inboundCompletes : Obligations.InboundCompletes := by
  constructor <;> intro s b
  · exact ⟨s.inspected b .isAck (.bool (isAck b)), rfl, congrArg Result.bool (isAck_eq_decide b), rfl, rfl, rfl, rfl,
      inspected_frame s b _ _⟩
  · exact ⟨s.inspected b .decodeResponse (.bytes (decodeResponse b)), rfl, rfl, rfl, rfl, rfl, rfl,
      inspected_frame s b _ _⟩

theorem exec_verifyChecksum_nil {s : State} (h : s.params.hasVerify = true) :
    exec (.verifyChecksum []) s = .next (s.inspected [] .verifyChecksum (.bool (verifyChecksum []))) := by
  simp only [exec, execVerifyChecksum, h, List.getLast?_nil, State.inspected, verifyChecksum_nil]

/-- What VERIFY_CHECKSUM leaves of a sequence with the last byte `c`: the generator has run over the bytes before it
(40_codec R98). -/
def State.verified (s : State) (b : List Byte) (c : Byte) : State :=
  ({ s with bytes := b ++ [c] }.runChecksum b).finishCodec .verifyChecksum (.bool (verifyChecksum (b ++ [c])))

theorem exec_verifyChecksum_concat {s : State} (h : s.params.hasVerify = true) (b : List Byte) (c : Byte) :
    exec (.verifyChecksum (b ++ [c])) s = .next (s.verified b c) := by
  simp only [exec, execVerifyChecksum, h, List.getLast?_concat, List.dropLast_concat, runChecksum_chk_eq_checksum,
    State.verified, verifyChecksum_concat]

theorem exec_verifyChecksum_absent {s : State} (h : s.params.hasVerify = false) (f : List Byte) :
    exec (.verifyChecksum f) s = .refused .verifyAbsent := by
  simp only [exec, execVerifyChecksum, h]

/-- Settles O19: the empty sequence is rejected without a run of the generator, and any other is some bytes and a
last one, which is compared with what the generator makes of those bytes. -/
theorem verifyCompletes : Obligations.VerifyCompletes := by
  refine ⟨fun s f h => ?_, fun s f h => exec_verifyChecksum_absent h f⟩
  have hne : ∀ (b : List Byte) (c : Byte), b ++ [c] ≠ [] := fun b c =>
    List.append_ne_nil_of_right_ne_nil b (List.cons_ne_nil c [])
  obtain rfl | ⟨b, c, rfl⟩ := f.eq_nil_or_concat'
  · obtain ⟨hsum, hchk, hframe⟩ := inspected_frame s [] .verifyChecksum (.bool (verifyChecksum []))
    exact ⟨_, _, exec_verifyChecksum_nil h, rfl, rfl, verifyChecksum_iff [], fun _ => ⟨hsum, hchk⟩,
      fun b c hf => absurd hf.symm (hne b c), rfl, rfl, rfl, hframe⟩
  · obtain ⟨hhost, hframe⟩ := withCodec_frame s (s.verified b c)
    refine ⟨_, _, exec_verifyChecksum_concat h b c, rfl, rfl, verifyChecksum_iff _,
      fun hf => absurd hf (hne b c), fun b' c' hf => ?_, rfl, rfl, rfl, hhost, rfl, rfl, hframe⟩
    obtain ⟨rfl, -⟩ := List.append_inj' hf rfl
    exact ⟨runningSum_eq _ b, runChecksum_chk_eq_checksum s b⟩

end Sys2Proof.Machine
end

section
/-! The family of 41_transport: the read time-out, what each primitive answers and leaves alone, the refusals, and
the requests that the engine makes. -/

namespace Sys2Proof.Machine

/-! ## The read time-out -/

/-- Settles O9: a decoded port takes its time-out from the host's register, and RTO overrides it. -/
theorem readTimeout : Obligations.ReadTimeout := by
  refine ⟨fun r p h => ?_, fun s => ?_⟩
  · obtain ⟨parity, flow, -, -, rfl⟩ := decodePort_cases h
    cases ht : r.readTimeout <;> simp [portWith, ht, Config.serialReadTimeoutDefaultMs]
  · cases h : s.rto <;> simp [rawTimeout, h]

/-! ## What the primitives leave alone -/

/-- No primitive writes the parameters, the host's events, a latch or an engine register but LASTRX. -/
theorem execPrimitive_registers {i : Instr} {s m : State} (hi : i.select.1 = .uop) (h : exec i s = .next m) :
    SameHost s m ∧ SameLatches s m ∧ SameControl s m := by
  rw [execPrimitive_frame hi h]
  simp [SameHost, SameLatches, SameSerialLatches, SameControl, State.withTransport]

theorem openPort_line (cfg : PortConfig) (s : State) :
    (openPort cfg s).lastrx = s.lastrx ∧ (openPort cfg s).tx = s.tx ∧ (openPort cfg s).rx = s.rx ∧
    (openPort cfg s).writes = s.writes ∧ (openPort cfg s).reads = s.reads := by
  cases h : openAnswer s with
  | ok => rw [openPort_ok cfg h]; exact ⟨rfl, rfl, rfl, rfl, rfl⟩
  | err c => rw [openPort_err cfg h]; exact ⟨rfl, rfl, rfl, rfl, rfl⟩
  | hold => rw [openPort_hold cfg h]; exact ⟨rfl, rfl, rfl, rfl, rfl⟩

theorem writeBytes_line (bs : List Byte) (s : State) :
    (writeBytes bs s).lastrx = s.lastrx ∧ (writeBytes bs s).handle = s.handle ∧ (writeBytes bs s).rx = s.rx ∧
    (writeBytes bs s).opens = s.opens ∧ (writeBytes bs s).reads = s.reads := by
  cases h : writeAnswer s with
  | ok => rw [writeBytes_ok bs h]; exact ⟨rfl, rfl, rfl, rfl, rfl⟩
  | err c k => rw [writeBytes_err bs h]; exact ⟨rfl, rfl, rfl, rfl, rfl⟩
  | hold => rw [writeBytes_hold bs h]; exact ⟨rfl, rfl, rfl, rfl, rfl⟩

/-- An answer of which nothing stays on the line is consumed. -/
theorem readBytes_reads {s : State} {cap : Nat} (timeout : Nat) (h : leftOnLine cap (readAnswer s) = []) :
    (readBytes cap timeout s).reads = s.reads.tail := by
  simp [readBytes_eq, h]

/-! ## Completion -/

/-- Settles O20, by the line's three answers to an open. -/
theorem openCompletes : Obligations.OpenCompletes := by
  intro s cfg hc hd
  have hruns : exec (.tOpen cfg) s = .next (openPort cfg s) := execTOpen_runs hc hd
  obtain ⟨hhost, hlatches, hcontrol⟩ := execPrimitive_registers rfl hruns
  refine ⟨_, hruns, fun h => ?_, fun c h => ?_, fun h => ?_, hhost, hlatches, hcontrol, openPort_line cfg s⟩
  · rw [openPort_ok cfg h]; exact ⟨rfl, rfl, rfl, rfl⟩
  · rw [openPort_err cfg h]; exact ⟨hc, rfl, rfl, rfl⟩
  · rw [openPort_hold cfg h]; exact ⟨hc, rfl, rfl, rfl⟩

/-- Settles O21, by the line's three answers to a write. -/
theorem writeCompletes : Obligations.WriteCompletes := by
  intro s cfg v ho
  have hruns : exec (.tWrite v) s = .next (writeBytes v s) := execTWrite_runs v ho
  obtain ⟨hhost, hlatches, hcontrol⟩ := execPrimitive_registers rfl hruns
  refine ⟨_, hruns, fun h => ?_, fun c k h => ?_, fun h => ?_, hhost, hlatches, hcontrol, writeBytes_line v s⟩
  · rw [writeBytes_ok v h]; exact ⟨rfl, rfl, rfl, rfl⟩
  · rw [writeBytes_err v h]; exact ⟨rfl, rfl, rfl, rfl⟩
  · rw [writeBytes_hold v h]; exact ⟨rfl, rfl, rfl, rfl⟩

/-- Settles O23: the outcome is the line's answer clipped to the capacity, and an answer within it is consumed. -/
theorem readCompletes : Obligations.ReadCompletes := by
  intro s cfg cap timeout ho _
  have hruns : exec (.tRead cap timeout) s = .next (readBytes cap timeout s) := execTRead_runs cap timeout ho
  obtain ⟨hhost, hlatches, hcontrol⟩ := execPrimitive_registers rfl hruns
  refine ⟨_, clipRead cap (readAnswer s), hruns, rfl, rfl, rfl, rfl, rfl, fun bs h hne hle => ?_, fun h => ?_,
    fun c h => ?_, hhost, hlatches, hcontrol, rfl, rfl, rfl, rfl⟩
  · obtain ⟨hclip, hleft⟩ := clipRead_data hne hle
    exact ⟨by rw [h, hclip], readBytes_reads timeout (by rw [h, hleft])⟩
  · exact ⟨by rw [h, clipRead_timedOut], readBytes_reads timeout (by rw [h]; rfl)⟩
  · exact ⟨by rw [h, clipRead_readError], readBytes_reads timeout (by rw [h]; rfl)⟩

/-- Settles O25: T_CLOSE writes the port, DELAY does not, and each records its event. -/
theorem closeAndDelayComplete : Obligations.CloseAndDelayComplete := by
  refine ⟨fun s cfg ho => ?_, fun s ms => ?_⟩
  · have hruns := execTClose_runs ho
    obtain ⟨hhost, hlatches, hcontrol⟩ := execPrimitive_registers rfl hruns
    exact ⟨_, hruns, rfl, rfl, rfl, rfl, hhost, hlatches, hcontrol, rfl, rfl, rfl, rfl, rfl, rfl, rfl⟩
  · have hruns := execDelay_runs s ms
    obtain ⟨hhost, hlatches, hcontrol⟩ := execPrimitive_registers rfl hruns
    exact ⟨_, hruns, rfl, rfl, rfl, rfl, hhost, hlatches, hcontrol, rfl, rfl, rfl, rfl, rfl, rfl, rfl⟩

/-! ## Refusals and stops -/

/-- Settles O26: each primitive looks at HANDLE first. -/
theorem requiredHandle : Obligations.RequiredHandle := by
  refine ⟨fun s c cfg h => ?_, fun s v h => ?_, fun s cap t h => ?_, fun s h => ?_⟩
  · simp only [exec, execTOpen, h]
  · simp only [exec, execTWrite, h]
  · simp only [exec, execTRead, h]
  · simp only [exec, execTClose, h]

theorem portRefusal_narrow {p : PortConfig} (h : p.dataBits ≠ .eight) : portRefusal p = some .narrowCharacters := by
  cases hd : p.dataBits with
  | eight => exact absurd hd h
  | five | six | seven => simp only [portRefusal, hd]

/-- Settles O27: all four operations ask `portRefusal` before they write anything. -/
theorem narrowRefused : Obligations.NarrowRefused := by
  intro s p hp
  have href : portRefusal p = some .narrowCharacters := portRefusal_narrow hp
  refine ⟨fun a => ?_, fun a o => ?_, fun b r e => ?_, fun hc => ?_⟩
  · simp only [exec, execReset, href]
  · simp only [exec, execCommand, href]
  · simp only [exec, execRawsend, href]
  · simp only [exec, execTOpen, hc, href]

/-! ## Data of length zero -/

/-- What T_READ does depends on HANDLE and on what the read does. -/
theorem exec_tRead_eq {s t : State} {cap timeout : Nat} (hhandle : t.handle = s.handle)
    (hread : readBytes cap timeout t = readBytes cap timeout s) :
    exec (.tRead cap timeout) t = exec (.tRead cap timeout) s := by
  simp only [exec, execTRead, hhandle, hread]

theorem readBytes_nil_eq_timedOut (s : State) (cap timeout : Nat) (rest : List ReadOutcome) :
    readBytes cap timeout { s with reads := .data [] :: rest }
      = readBytes cap timeout { s with reads := .timedOut :: rest } := by
  simp [readBytes_eq, readAnswer, leftOnLine]

/-- Data that a read gives has from one byte to the capacity (41_transport R115). -/
theorem length_of_clipRead_eq_data {cap : Nat} {a : ReadOutcome} {bs : List Byte} (h : clipRead cap a = .data bs) :
    1 ≤ bs.length ∧ bs.length ≤ cap := by
  obtain ⟨c, -, hc⟩ | hc | ⟨bs', hc, hlen⟩ := clipRead_cases cap a
  · simp [hc] at h
  · simp [hc] at h
  · cases hc.symm.trans h
    exact hlen

/-- Settles O24: `clipRead` makes a time-out of data of no byte, and bounds all other data. -/
theorem zeroBytesIsTimeout : Obligations.ZeroBytesIsTimeout := by
  obtain ⟨-, -, hstop, -⟩ := requiredHandle
  refine ⟨fun s cap timeout rest => ?_, fun s t cap timeout bs h hret => ?_⟩
  · exact exec_tRead_eq rfl (readBytes_nil_eq_timedOut s cap timeout rest)
  · cases hs : s.handle with
    | closed => simp [hstop s cap timeout hs] at h
    | opened cfg =>
      rw [execTRead_runs cap timeout hs] at h
      cases h
      have hclip : clipRead cap (readAnswer s) = .data bs := UopReturn.read.inj hret
      exact length_of_clipRead_eq_data hclip

/-! ## While the line has not answered -/

/-- A primitive that the line has not answered ends the step. -/
theorem step_waiting {s t : State} {u : UopRegs} {i : Instr} (hu : s.uop = some u) (hi : intrusion s = none)
    (hd : decodeUop u = .ok i) (hexec : exec i { s with uop := none } = .next t) (hw : t.ret = .waiting) :
    step s = .next t := by
  rw [step_primitive hu hi hd, hexec, andThen_next, advance_waiting hw]

/-- Settles O41: the completion of T_OPEN and of T_WRITE under the answer hold, with no transition after it. -/
theorem heldOff : Obligations.HeldOff := by
  refine ⟨fun s hu hc hd hi hans => ?_, fun s v hu hv ho hi hans => ?_⟩
  · obtain ⟨t, hexec, -, -, hhold, hhost, hlatches, hcontrol, hlastrx, htx, hrx, hline⟩ :=
      openCompletes { s with uop := none } s.port hc hd
    obtain ⟨hhandle, hret, huop, htrace⟩ := hhold hans
    exact ⟨t, step_waiting hu hi (decode_openRequest _) hexec hret, huop.trans hu.symm, hhandle.trans hc.symm, hhost,
      hlatches, hcontrol, hlastrx, htx, hrx, htrace, hline⟩
  · obtain ⟨t, hexec, -, -, hhold, hhost, hlatches, hcontrol, hlastrx, hhandle, hrx, hline⟩ :=
      writeCompletes { s with uop := none } s.port v ho
    obtain ⟨htx, hret, huop, htrace⟩ := hhold hans
    exact ⟨t, step_waiting hu hi (decode_writeRequest hv) hexec hret, huop.trans hu.symm, hhandle, hhost, hlatches,
      hcontrol, hlastrx, htx, hrx, htrace, hline⟩

/-! ## Faults -/

/-- What a primitive can have returned in each state of the FSM that has a transition for it (42_handshake R134 to
R142, 43_rawsend R161 to R166). -/
inductive Expected : Fsm → UopReturn → Prop where
  | held (f : Fsm) : Expected f .waiting
  | opened : Expected .idle .ok
  | openDenied (port : Text) (c : Cause) : Expected .idle (.portOpenError port c)
  | written : Expected .sending .ok
  | writeFailed (c : Cause) : Expected .sending (.writeError c)
  | ackRead (r : ReadOutcome) : Expected .awaitingAck (.read r)
  | delayed : Expected .retry .nothing
  | drained (r : ReadOutcome) : Expected .draining (.read r)
  | succeeded : Expected .success .nothing
  | failed : Expected .failure .nothing

theorem afterDrainRead_ne_fault (r : ReadOutcome) (s : State) (f : Fault) : afterDrainRead r s ≠ .fault f := by
  cases r with
  | data bs => cases h : accOverfull { s with acc := s.acc ++ bs } <;> simp [afterDrainRead, h]
  | timedOut | readError c => exact nofun

/-- The engine has a transition for every expected answer. -/
theorem advance_ne_fault {s : State} (h : Expected s.fsm s.ret) (f : Fault) : advance s ≠ .fault f := by
  generalize hf : s.fsm = fsm, hr : s.ret = ret at h
  cases h with
  | held => simp [advance_waiting hr]
  | opened => simp [advance, hf, hr, afterOpen_enterSending hr]
  | openDenied port c => simp [advance, hf, hr, afterOpen]
  | written => cases hm : s.mode <;> simp [advance, hf, hr, afterWrite, hm]
  | writeFailed c => simp [advance, hf, hr, afterWrite]
  | drained r => simpa [advance, hf, hr] using afterDrainRead_ne_fault r s f
  | ackRead | delayed | succeeded | failed => simp [advance, hf, hr]

theorem openPort_expected (cfg : PortConfig) (s : State) : Expected .idle (openPort cfg s).ret := by
  cases h : openAnswer s with
  | ok => rw [openPort_ok cfg h]; exact .opened
  | err c => rw [openPort_err cfg h]; exact .openDenied cfg.id c
  | hold => rw [openPort_hold cfg h]; exact .held _

theorem writeBytes_expected (bs : List Byte) (s : State) : Expected .sending (writeBytes bs s).ret := by
  cases h : writeAnswer s with
  | ok => rw [writeBytes_ok bs h]; exact .written
  | err c k => rw [writeBytes_err bs h]; exact .writeFailed c
  | hold => rw [writeBytes_hold bs h]; exact .held _

/-- The outstanding request is an operation that runs in this state and returns what the FSM expects. -/
def RequestRuns (s : State) : Prop :=
  ∃ u i m, s.uop = some u ∧ decodeUop u = .ok i ∧ exec i { s with uop := none } = .next m ∧ Expected s.fsm m.ret

theorem TerminalOk.closing {s : State} (h : TerminalOk s) (hu : s.uop ≠ none) :
    s.uop = some closeRequest ∧ PortHeld s := by
  obtain ⟨hnone, -⟩ | hclosing := h
  · exact absurd hnone hu
  · exact hclosing

/-- Under the invariant a request is made only where the port and the operands allow it. -/
theorem EngineInv.requestRuns {s : State} (h : EngineInv s) (hu : s.uop ≠ none) : RequestRuns s := by
  obtain ⟨⟨-, hchunk⟩, -, -, -, hidle, hsending, hawaiting, hretry, hdraining, hsuccess, hfailure⟩ := h
  unfold RequestRuns
  cases hf : s.fsm with
  | idle =>
    obtain ⟨hnone, -⟩ | ⟨hreq, hc, hd, -⟩ := hidle hf
    · exact absurd hnone hu
    · exact ⟨_, _, _, hreq, decode_openRequest _, execTOpen_runs hc hd, openPort_expected _ _⟩
  | sending =>
    obtain ⟨hreq, ho, hunit, -⟩ := hsending hf
    exact ⟨_, _, _, hreq, decode_writeRequest (unitToSend_ne_nil hunit), execTWrite_runs _ ho,
      writeBytes_expected _ _⟩
  | awaitingAck =>
    obtain ⟨hreq, ho, -⟩ := hawaiting hf
    exact ⟨_, _, _, hreq, decode_readRequest _ Nat.one_ne_zero, execTRead_runs _ _ ho, .ackRead _⟩
  | retry =>
    obtain ⟨hreq, -⟩ := hretry hf
    exact ⟨_, _, _, hreq, decode_delayRequest _, execDelay_runs _ _, .delayed⟩
  | draining =>
    obtain ⟨hreq, ho, -⟩ := hdraining hf
    have hcap : s.params.rxChunk ≠ 0 := Nat.one_le_iff_ne_zero.mp hchunk
    exact ⟨_, _, _, hreq, decode_readRequest _ hcap, execTRead_runs _ _ ho, .drained _⟩
  | success =>
    obtain ⟨hreq, ho⟩ := TerminalOk.closing (hsuccess hf) hu
    exact ⟨_, _, _, hreq, decode_closeRequest, execTClose_runs ho, .succeeded⟩
  | failure =>
    obtain ⟨hreq, ho⟩ := TerminalOk.closing (hfailure hf) hu
    exact ⟨_, _, _, hreq, decode_closeRequest, execTClose_runs ho, .failed⟩

/-- The host's operations start, run or are refused, whatever the state. -/
theorem execInvocation_ne_fault {i : Instr} (hi : i.select.1 = .hostop) (s : State) (f : Fault) :
    exec i s ≠ .fault f := by
  cases i with
  | reset addr port => cases hp : portRefusal port <;> simp [exec, execReset, hp]
  | command addr opc port => cases hp : portRefusal port <;> simp [exec, execCommand, hp]
  | rawsend port payload rto explen =>
    cases hp : portRefusal port <;> cases ho : payloadOverlong s payload <;> simp [exec, execRawsend, hp, ho]
  | verifyChecksum bytes =>
    cases hv : s.params.hasVerify <;> cases hl : bytes.getLast? <;> simp [exec, execVerifyChecksum, hv, hl]
  | bridge | checksum | buildFrame | packCtrl | isAck | decodeResponse => exact nofun
  | tOpen | tWrite | tRead | tClose | delay => cases hi

theorem fetchInvocation_cases (r : HostRegs) (rest : List HostEvent) (s : State) :
    (∃ i t, i.select.1 = .hostop ∧ fetchInvocation r rest s = .invocation i t) ∨
      ∃ e, fetchInvocation r rest s = .refuses e := by
  cases hd : decodeHost r with
  | ok i => exact .inl ⟨i, _, decodeHost_format hd, by rw [fetchInvocation, hd]⟩
  | error e => exact .inr ⟨_, by rw [fetchInvocation, hd]⟩

/-- Without a request outstanding no step stops with a fault. -/
theorem step_noRequest_ne_fault {s : State} (hu : s.uop = none) (f : Fault) : step s ≠ .fault f := by
  have invoked : ∀ r rest, fetch s = fetchInvocation r rest s → step s ≠ .fault f := by
    intro r rest hfetch
    obtain ⟨i, t, hi, hr⟩ | ⟨e, hr⟩ := fetchInvocation_cases r rest s
    · simpa only [step, hfetch, hr] using execInvocation_ne_fault hi t f
    · simp [step, hfetch, hr]
  cases hh : s.host with
  | nil => simp [step, fetch, hu, hh]
  | cons e rest =>
    cases e with
    | rewrite => simp [step, fetch, hu, hh]
    | invoke r => exact invoked r rest (by simp only [fetch, hu, hh])
    | overlap r => exact invoked r rest (by simp only [fetch, hu, hh])

/-- A request that runs, and returns what the FSM expects, does not end in a fault. -/
theorem RequestRuns.step_ne_fault {s : State} (h : RequestRuns s) (f : Fault) : step s ≠ .fault f := by
  obtain ⟨u, i, m, hu, hd, hexec, hexp⟩ := h
  cases hi : intrusion s with
  | some r => simp [step, fetch, hu, hi]
  | none =>
    obtain ⟨-, -, hfsm, -⟩ := execPrimitive_registers (decodeUop_format hd) hexec
    rw [step_primitive hu hi hd, hexec, andThen_next]
    exact advance_ne_fault (hfsm ▸ hexp) f

/-- Settles O52: the host's operations have no fault, and under the invariant the engine's requests run and are
answered as the FSM expects. -/
theorem noFault : Obligations.NoFault := by
  intro s f h
  by_cases hu : s.uop = none
  · exact step_noRequest_ne_fault hu f
  · exact (h.requestRuns hu).step_ne_fault f

end Sys2Proof.Machine
end

section
/-! The family of 42_handshake: the start and each transition of a handshake, the runs that the line's answers fix,
and the termination and the trace of every run. -/

namespace Sys2Proof.Machine

/-! ## The start of a handshake -/

theorem execReset_runs {port : PortConfig} (addr : Byte) (s : State) (hd : port.dataBits = .eight) :
    exec (.reset addr port) s
      = .next (startHandshake .reset .reset (packCtrl addr 0) { s with addr := addr, port := port }) := by
  simp only [exec, execReset, portRefusal_eq_none.mpr hd]

theorem execCommand_runs {port : PortConfig} (addr : Byte) (opc : Nibble) (s : State) (hd : port.dataBits = .eight) :
    exec (.command addr opc port) s
      = .next (startHandshake .command .command (packCtrl addr opc)
          { s with addr := addr, opc := opc, port := port }) := by
  simp only [exec, execCommand, portRefusal_eq_none.mpr hd]

/-- Settles O29: both operations go through the start values, and RESET's control byte is the masked address. -/
theorem handshakeStarts : Obligations.HandshakeStarts := by
  refine ⟨fun s addr port hd => ?_, fun s addr opc port hd => execCommand_runs addr opc s hd⟩
  rw [execReset_runs addr s hd, packCtrl_zero]
  rfl

/-! ## What the line leaves of an answered request -/

/-- `s` after an open of its port that the line grants. -/
def State.portGranted (s : State) : State :=
  { s with uop := none, opens := s.opens.tail, tick := tickAfter s.opens s.tick, handle := .opened s.port,
           ret := .ok, trace := s.trace ++ [.evOpen s.port .ok] }

/-- `s` after an open of its port that the line denies. -/
def State.portDenied (s : State) (c : Cause) : State :=
  { s with uop := none, opens := s.opens.tail, tick := tickAfter s.opens s.tick,
           ret := .portOpenError s.port.id c, trace := s.trace ++ [.evOpen s.port (.err c)] }

/-- `s` after an open of its port that the line has not answered. -/
def State.openHeld (s : State) : State :=
  { s with uop := some (openRequest s.port), opens := s.opens.tail, tick := tickAfter s.opens s.tick,
           ret := .waiting }

/-- `s` after a write that the line takes whole. -/
def State.unitTaken (s : State) (bs : List Byte) : State :=
  { s with uop := none, writes := s.writes.tail, tick := tickAfter s.writes s.tick, tx := s.tx ++ bs,
           ret := .ok, trace := s.trace ++ [.evWrite bs .ok] }

/-- `s` after a write that fails with `k` bytes on the line. -/
def State.unitFailed (s : State) (bs : List Byte) (c : Cause) (k : Nat) : State :=
  { s with uop := none, writes := s.writes.tail, tick := tickAfter s.writes s.tick, tx := s.tx ++ bs.take k,
           ret := .writeError c, trace := s.trace ++ [.evWrite bs (.err c)] }

/-- `s` after a write that the line has not answered. -/
def State.writeHeld (s : State) (bs : List Byte) : State :=
  { s with uop := some (writeRequest bs), writes := s.writes.tail, tick := tickAfter s.writes s.tick,
           ret := .waiting }

/-- `s` after the one read of an attempt (42_handshake R137). -/
def State.ackRead (s : State) : State :=
  { s with uop := none, reads := leftOnLine 1 (readAnswer s) ++ s.reads.tail, tick := tickAfter s.reads s.tick,
           lastrx := some (clipRead 1 (readAnswer s)), rx := s.rx ++ bytesOf (clipRead 1 (readAnswer s)),
           ret := .read (clipRead 1 (readAnswer s)),
           trace := s.trace ++ [.evRead 1 s.port.readTimeout (clipRead 1 (readAnswer s))] }

/-- `s` after the delay between two attempts (42_handshake R140). -/
def State.retryDelayed (s : State) : State :=
  { s with uop := none, ret := .nothing, trace := s.trace ++ [.evDelay s.params.retryDelayMs] }

/-- `s` after the close of its port. -/
def State.portClosed (s : State) : State :=
  { s with uop := none, handle := .closed, ret := .nothing, trace := s.trace ++ [.evClose] }

/-! ## A step by its request -/

/-- The engine's request runs and its transition follows. -/
theorem step_advance {s m : State} {u : UopRegs} {i : Instr} (hu : s.uop = some u) (hi : intrusion s = none)
    (hd : decodeUop u = .ok i) (hexec : exec i { s with uop := none } = .next m) : step s = advance m := by
  rw [step_primitive hu hi hd, hexec, andThen_next]

theorem advance_idle {s : State} (hf : s.fsm = .idle) (hr : s.ret ≠ .waiting) : advance s = afterOpen s := by
  simp only [advance_eq hr, hf]

theorem advance_sending {s : State} (hf : s.fsm = .sending) (hr : s.ret ≠ .waiting) : advance s = afterWrite s := by
  simp only [advance_eq hr, hf]

theorem advance_awaitingAck {s : State} {r : ReadOutcome} (hf : s.fsm = .awaitingAck) (hr : s.ret = .read r) :
    advance s = .next (afterAckRead r s) := by
  simp only [advance, hf, hr, reduceCtorEq, if_false]

theorem advance_retry {s : State} (hf : s.fsm = .retry) (hr : s.ret = .nothing) :
    advance s = .next (afterDelay s) := by
  simp only [advance, hf, hr, reduceCtorEq, if_false]

theorem advance_terminal {s : State} (hf : s.fsm = .success ∨ s.fsm = .failure) (hr : s.ret = .nothing) :
    advance s = .next s.deliver := by
  obtain hf | hf := hf <;> simp only [advance, hf, hr, reduceCtorEq, if_false]

/-- In `Idle` the open of the invocation's port is outstanding (42_handshake R134, 43_rawsend R161). -/
def AsksOpen (s : State) : Prop :=
  s.fsm = .idle ∧ s.uop = some (openRequest s.port) ∧ s.handle = .closed ∧ s.port.dataBits = .eight ∧
    intrusion s = none

/-- In `Sending` the write of `bs` is outstanding. -/
def AsksWrite (bs : List Byte) (s : State) : Prop :=
  s.fsm = .sending ∧ s.uop = some (writeRequest bs) ∧ bs ≠ [] ∧ PortHeld s ∧ intrusion s = none

/-- In `AwaitingAck` the one read of the attempt is outstanding (42_handshake R137). -/
def AsksAck (s : State) : Prop :=
  s.fsm = .awaitingAck ∧ s.uop = some (readRequest 1 s.port.readTimeout) ∧ PortHeld s ∧ intrusion s = none

/-- In `Retry` the fixed delay is outstanding (42_handshake R140). -/
def AsksDelay (s : State) : Prop :=
  s.fsm = .retry ∧ s.uop = some (delayRequest s.params.retryDelayMs) ∧ intrusion s = none

/-- In a terminal state the close is outstanding (42_handshake R142). -/
def AsksClose (s : State) : Prop :=
  (s.fsm = .success ∨ s.fsm = .failure) ∧ s.uop = some closeRequest ∧ PortHeld s ∧ intrusion s = none

/-- A denied open leaves OUTCOME as it was (42_handshake R135). -/
theorem errorOutcome_portOpenError (s : State) (port : Text) (c : Cause) :
    errorOutcome s (.portOpenError port c) = s.outcome := by
  cases h : s.mode <;> simp only [errorOutcome, h]

/-- In a handshake a write failure is wrapped as TransportError (60_exceptions R192). -/
theorem errorOutcome_writeError {s : State} (port : Text) (c : Cause) (hm : s.mode ≠ .rawFrame) :
    errorOutcome s (.writeError port c) = some (.transportError c) := by
  cases h : s.mode with
  | rawFrame => exact absurd h hm
  | reset | command => simp only [errorOutcome, h]

/-- In a handshake a read failure is wrapped as TransportError (60_exceptions R192). -/
theorem errorOutcome_readError {s : State} (port : Text) (c : Cause) (hm : s.mode ≠ .rawFrame) :
    errorOutcome s (.readError port c) = some (.transportError c) := by
  cases h : s.mode with
  | rawFrame => exact absurd h hm
  | reset | command => simp only [errorOutcome, h]

theorem AsksOpen.step_eq {s : State} (h : AsksOpen s) : step s = advance (openPort s.port { s with uop := none }) := by
  obtain ⟨-, hu, hc, hd, hi⟩ := h
  exact step_advance hu hi (decode_openRequest _) (execTOpen_runs hc hd)

theorem AsksOpen.step_granted {s : State} (h : AsksOpen s) (ha : openAnswer s = .ok) :
    step s = afterOpen s.portGranted := by
  obtain ⟨hf, -⟩ := id h
  calc step s = advance (openPort s.port { s with uop := none }) := h.step_eq
    _ = advance s.portGranted := congrArg advance (openPort_ok (s := { s with uop := none }) s.port ha)
    _ = afterOpen s.portGranted := advance_idle hf nofun

/-- A denied open ends the invocation at once, with the error as the result. -/
theorem AsksOpen.step_denied {s : State} {c : Cause} (h : AsksOpen s) (ha : openAnswer s = .err c) :
    step s = .next { s.portDenied c with
      fsm := .failure, error := some (.portOpenError s.port.id c), uop := none,
      result := .error (.portOpenError s.port.id c), done := true } := by
  obtain ⟨hf, -, hc, -⟩ := id h
  calc step s = advance (openPort s.port { s with uop := none }) := h.step_eq
    _ = advance (s.portDenied c) := congrArg advance (openPort_err (s := { s with uop := none }) s.port ha)
    _ = .next ((s.portDenied c).takeError (.portOpenError s.port.id c)) := advance_idle hf nofun
    _ = _ := by rw [takeError_closed (s := s.portDenied c) hc, errorOutcome_portOpenError]

theorem AsksOpen.step_held {s : State} (h : AsksOpen s) (ha : openAnswer s = .hold) : step s = .next s.openHeld := by
  calc step s = advance (openPort s.port { s with uop := none }) := h.step_eq
    _ = advance s.openHeld := congrArg advance (openPort_hold (s := { s with uop := none }) s.port ha)
    _ = .next s.openHeld := advance_waiting rfl

theorem AsksWrite.step_eq {s : State} {bs : List Byte} (h : AsksWrite bs s) :
    step s = advance (writeBytes bs { s with uop := none }) := by
  obtain ⟨-, hu, hbs, ho, hi⟩ := h
  exact step_advance hu hi (decode_writeRequest hbs) (execTWrite_runs bs ho)

theorem AsksWrite.step_taken {s : State} {bs : List Byte} (h : AsksWrite bs s) (ha : writeAnswer s = .ok) :
    step s = afterWrite (s.unitTaken bs) := by
  obtain ⟨hf, -⟩ := id h
  calc step s = advance (writeBytes bs { s with uop := none }) := h.step_eq
    _ = advance (s.unitTaken bs) := congrArg advance (writeBytes_ok (s := { s with uop := none }) bs ha)
    _ = afterWrite (s.unitTaken bs) := advance_sending hf nofun

/-- A write failure of a handshake, with the port open: the outcome is wrapped and the close requested. -/
theorem AsksWrite.step_failed {s : State} {bs : List Byte} {c : Cause} {k : Nat} (h : AsksWrite bs s)
    (hm : s.mode ≠ .rawFrame) (ha : writeAnswer s = .err c k) :
    step s = .next { s.unitFailed bs c k with
      fsm := .failure, outcome := some (.transportError c), error := some (.writeError s.port.id c),
      uop := some closeRequest } := by
  obtain ⟨hf, -, -, ho, -⟩ := id h
  calc step s = advance (writeBytes bs { s with uop := none }) := h.step_eq
    _ = advance (s.unitFailed bs c k) := congrArg advance (writeBytes_err (s := { s with uop := none }) bs ha)
    _ = .next ((s.unitFailed bs c k).takeError (.writeError s.port.id c)) := advance_sending hf nofun
    _ = _ := by
      rw [takeError_opened (s := s.unitFailed bs c k) ho, errorOutcome_writeError (s := s.unitFailed bs c k) _ _ hm]

theorem AsksWrite.step_held {s : State} {bs : List Byte} (h : AsksWrite bs s) (ha : writeAnswer s = .hold) :
    step s = .next (s.writeHeld bs) := by
  calc step s = advance (writeBytes bs { s with uop := none }) := h.step_eq
    _ = advance (s.writeHeld bs) := congrArg advance (writeBytes_hold (s := { s with uop := none }) bs ha)
    _ = .next (s.writeHeld bs) := advance_waiting rfl

theorem AsksAck.step_eq {s : State} (h : AsksAck s) :
    step s = .next (afterAckRead (clipRead 1 (readAnswer s)) s.ackRead) := by
  obtain ⟨hf, hu, ho, hi⟩ := h
  calc step s = advance s.ackRead :=
        step_advance hu hi (decode_readRequest _ Nat.one_ne_zero) (execTRead_runs 1 _ ho)
    _ = .next (afterAckRead (clipRead 1 (readAnswer s)) s.ackRead) := advance_awaitingAck hf rfl

theorem AsksDelay.step_eq {s : State} (h : AsksDelay s) : step s = .next (afterDelay s.retryDelayed) := by
  obtain ⟨hf, hu, hi⟩ := h
  calc step s = advance s.retryDelayed := step_advance hu hi (decode_delayRequest _) (execDelay_runs _ _)
    _ = .next (afterDelay s.retryDelayed) := advance_retry hf rfl

theorem AsksClose.step_eq {s : State} (h : AsksClose s) : step s = .next s.portClosed.deliver := by
  obtain ⟨hf, hu, ho, hi⟩ := h
  calc step s = advance s.portClosed := step_advance hu hi decode_closeRequest (execTClose_runs ho)
    _ = .next s.portClosed.deliver := advance_terminal hf rfl

/-! ## The open and the write -/

/-- Settles O32: the two answers that the line can give to the open, the first in each kind of mode. -/
theorem Handshake.afterOpen : Obligations.AfterOpen := by
  intro s hf hu hc hd hattempt hi
  have h : AsksOpen s := ⟨hf, hu, hc, hd, hi⟩
  refine ⟨fun ha => ?_, fun c ha => ?_⟩
  · by_cases hm : s.mode = .rawFrame
    · refine ⟨_, (h.step_granted ha).trans (afterOpen_rawFrame rfl hm), rfl, rfl, ?_, ?_, rfl, rfl, rfl, rfl⟩
      · exact hattempt.trans (if_pos hm).symm
      · rw [unitToSend_rawFrame hm]; rfl
    · refine ⟨_, (h.step_granted ha).trans (afterOpen_handshake rfl hm), rfl, rfl, ?_, ?_, rfl, rfl, rfl, rfl⟩
      · exact (if_neg hm).symm
      · rw [unitToSend_handshake hm]; rfl
  · exact ⟨_, h.step_denied ha, rfl, hc, hattempt, rfl, rfl, rfl, rfl, rfl, rfl, rfl, rfl⟩

/-- Settles O33: what `Sending` writes, and the two answers to a handshake's write. -/
theorem afterHandshakeWrite : Obligations.AfterHandshakeWrite := by
  intro s hf hu ho hne hi
  refine ⟨unitToSend_handshake, unitToSend_rawFrame, fun hm ha => ?_, fun hm c k ha => ?_⟩
  all_goals
    rw [unitToSend_handshake hm] at hu hne
    have h : AsksWrite [s.ctrl] s := ⟨hf, hu, hne, ho, hi⟩
  · exact ⟨_, (h.step_taken ha).trans (afterWrite_handshake rfl hm), rfl, rfl, rfl, rfl, ho, rfl⟩
  · exact ⟨_, h.step_failed hm ha, rfl, rfl, rfl, rfl, rfl, rfl, ho⟩

/-! ## The answer to an attempt -/

/-- A read that gives no acknowledgment and no error: a time-out, or a byte other than 0x00 (42_handshake R139). -/
def NoAck (r : ReadOutcome) : Prop := r = .timedOut ∨ ∃ b : Byte, b ≠ 0x00#8 ∧ r = .data [b]

/-- Such a read after which the parameters allow another attempt (42_handshake R140, R143; log 17). -/
def RetriedRead (p : Params) (r : ReadOutcome) : Prop :=
  r = .timedOut ∨ p.abortOnNonack = false ∧ ∃ b : Byte, b ≠ 0x00#8 ∧ r = .data [b]

theorem RetriedRead.noAck {p : Params} {r : ReadOutcome} (h : RetriedRead p r) : NoAck r := by
  obtain h | ⟨-, h⟩ := h
  · exact .inl h
  · exact .inr h

/-- What the one read of an attempt can give. -/
theorem clipRead_one_cases (a : ReadOutcome) :
    (∃ c, clipRead 1 a = .readError c) ∨ clipRead 1 a = .data [0x00#8] ∨ NoAck (clipRead 1 a) := by
  obtain ⟨c, -, hc⟩ | hc | ⟨bs, hc, hpos, hle⟩ := clipRead_cases 1 a
  · exact .inl ⟨c, hc⟩
  · exact .inr (.inr (.inl hc))
  · obtain ⟨b, rfl⟩ := List.length_eq_one_iff.mp (Nat.le_antisymm hle hpos)
    by_cases hb : b = 0x00#8
    · exact .inr (.inl (hb ▸ hc))
    · exact .inr (.inr (.inr ⟨b, hb, hc⟩))

/-- A single byte is read as it is, and nothing of it stays on the line. -/
theorem clipRead_byte (b : Byte) : clipRead 1 (.data [b]) = .data [b] ∧ leftOnLine 1 (.data [b]) = [] :=
  clipRead_data (List.cons_ne_nil b []) (Nat.le_refl 1)

/-- The unacknowledged answers: no byte, or one that is no ACK. -/
theorem Unacknowledged.cases {a : ReadOutcome} (h : Unacknowledged a) :
    (bytesOf a = [] ∧ clipRead 1 a = .timedOut ∧ leftOnLine 1 a = []) ∨
      ∃ b : Byte, b ≠ 0x00#8 ∧ a = .data [b] := by
  obtain rfl | rfl | ⟨hlen, hne⟩ := h
  · exact .inl ⟨rfl, rfl, rfl⟩
  · exact .inl ⟨rfl, clipRead_nil 1, rfl⟩
  · cases a with
    | data bs =>
      obtain ⟨b, rfl⟩ := List.length_eq_one_iff.mp hlen
      exact .inr ⟨b, fun hb => hne (hb ▸ rfl), rfl⟩
    | timedOut | readError c => cases hlen

/-- What an unacknowledged answer gives the engine, all of it in one read. -/
theorem Unacknowledged.noAck {a : ReadOutcome} (h : Unacknowledged a) :
    NoAck (clipRead 1 a) ∧ leftOnLine 1 a = [] := by
  obtain ⟨-, hclip, hleft⟩ | ⟨b, hb, rfl⟩ := h.cases
  · exact ⟨.inl hclip, hleft⟩
  · obtain ⟨hclip, hleft⟩ := clipRead_byte b
    exact ⟨.inr ⟨b, hb, hclip⟩, hleft⟩

theorem Retried.retriedRead {s : State} {a : ReadOutcome} (h : Retried s a) :
    RetriedRead s.params (clipRead 1 a) := by
  obtain ⟨hun, hparam⟩ := h
  obtain ⟨-, hclip, -⟩ | ⟨b, hb, rfl⟩ := Unacknowledged.cases hun
  · exact .inl hclip
  · exact .inr ⟨hparam.resolve_right (List.cons_ne_nil b []), b, hb, (clipRead_byte b).1⟩

theorem Retried.of_params {s t : State} {a : ReadOutcome} (h : Retried s a) (hp : t.params = s.params) :
    Retried t a := by rwa [Retried, hp]

theorem afterAckRead_noAck {r : ReadOutcome} (h : NoAck r) (s : State) : afterAckRead r s = unacknowledged r s := by
  obtain rfl | ⟨b, hb, rfl⟩ := h
  · rfl
  · have hk : isAck [b] = false := by simp [isAck, Config.ackByte, hb]
    simp [afterAckRead, hk]

theorem afterAckRead_ack (s : State) : afterAckRead (.data [0x00#8]) s = acknowledge s := by
  simp [afterAckRead, isAck_iff]

/-- After a read without an acknowledgment another attempt follows within the budget, as the parameters allow. -/
theorem mayRetry_noAck {s : State} {r : ReadOutcome} (hl : s.lastrx = some r) (h : NoAck r) :
    mayRetry s = true ↔ s.attempt < s.params.maxAttempts ∧ RetriedRead s.params r := by
  rw [mayRetry_iff]
  obtain rfl | ⟨b, hb, rfl⟩ := h
  · simp [lastNonack, hl, RetriedRead]
  · simp [lastNonack, hl, RetriedRead, Config.ackByte, hb]

theorem AsksAck.step_acknowledged {s : State} (h : AsksAck s) (ha : clipRead 1 (readAnswer s) = .data [0x00#8]) :
    step s = .next { s.ackRead with
      fsm := .success, outcome := some .acknowledged, uop := some closeRequest } := by
  obtain ⟨-, -, ho, -⟩ := id h
  rw [h.step_eq, ha, afterAckRead_ack, acknowledge_eq (s := s.ackRead) ho]

theorem AsksAck.step_readError {s : State} {c : Cause} (h : AsksAck s) (hm : s.mode ≠ .rawFrame)
    (ha : clipRead 1 (readAnswer s) = .readError c) :
    step s = .next { s.ackRead with
      fsm := .failure, outcome := some (.transportError c), error := some (.readError s.port.id c),
      uop := some closeRequest } := by
  obtain ⟨-, -, ho, -⟩ := id h
  have hraise : afterAckRead (.readError c) s.ackRead = s.ackRead.takeError (.readError s.port.id c) := rfl
  rw [h.step_eq, ha, hraise, takeError_opened (s := s.ackRead) ho,
    errorOutcome_readError (s := s.ackRead) _ _ hm]

theorem AsksAck.step_retried {s : State} (h : AsksAck s) (hr : RetriedRead s.params (clipRead 1 (readAnswer s)))
    (hlt : s.attempt < s.params.maxAttempts) :
    step s = .next { s.ackRead with fsm := .retry, uop := some (delayRequest s.params.retryDelayMs) } := by
  have hmay : mayRetry s.ackRead = true := (mayRetry_noAck rfl hr.noAck).mpr ⟨hlt, hr⟩
  rw [h.step_eq, afterAckRead_noAck hr.noAck, unacknowledged_retries _ hmay]
  rfl

theorem AsksAck.step_exhausted {s : State} (h : AsksAck s) (hn : NoAck (clipRead 1 (readAnswer s)))
    (hend : ¬(s.attempt < s.params.maxAttempts ∧ RetriedRead s.params (clipRead 1 (readAnswer s)))) :
    step s = .next { s.ackRead with
      fsm := .failure, outcome := some (exhaustedOutcome (clipRead 1 (readAnswer s))),
      uop := some closeRequest } := by
  obtain ⟨-, -, ho, -⟩ := id h
  have hmay : mayRetry s.ackRead = false := Bool.eq_false_iff.mpr (mt (mayRetry_noAck rfl hn).mp hend)
  rw [h.step_eq, afterAckRead_noAck hn, unacknowledged_fails (s := s.ackRead) _ hmay ho]

/-- Settles O34: the byte 0x00 is read as it is, and it is the ACK. -/
theorem Handshake.acknowledge : Obligations.Acknowledge := by
  intro s hf hu ho hi ha
  have h : AsksAck s := ⟨hf, hu, ho, hi⟩
  have hclip : clipRead 1 (readAnswer s) = .data [0x00#8] := by rw [ha, (clipRead_byte _).1]
  refine ⟨_, h.step_acknowledged hclip, rfl, rfl, by simp [acked], ?_, rfl, rfl⟩
  rw [← hclip]
  rfl

/-- Settles O35: a read failure goes through the entry of a hard error, with the port open. -/
theorem handshakeReadFailure : Obligations.HandshakeReadFailure := by
  intro s c hf hu ho hm hi ha
  have h : AsksAck s := ⟨hf, hu, ho, hi⟩
  have hclip : clipRead 1 (readAnswer s) = .readError c := by rw [ha, clipRead_readError]
  exact ⟨_, h.step_readError hm hclip, rfl, rfl, rfl, rfl, rfl, rfl⟩

/-- The delay of a handshake is followed by the next attempt, with the same control byte. -/
theorem AsksDelay.step_handshake {s : State} (h : AsksDelay s) (hm : s.mode ≠ .rawFrame) :
    step s = .next { s.retryDelayed with
      attempt := s.attempt + 1, fsm := .sending, uop := some (writeRequest [s.ctrl]) } := by
  rw [h.step_eq, afterDelay_handshake (s := s.retryDelayed) hm]
  rfl

/-- Settles O36: the read's step and then the delay's. -/
theorem retryThenSend : Obligations.RetryThenSend := by
  intro s hf hu ho hm hi hr hlt
  have h : AsksAck s := ⟨hf, hu, ho, hi⟩
  have hdelay : AsksDelay { s.ackRead with fsm := .retry, uop := some (delayRequest s.params.retryDelayMs) } :=
    ⟨rfl, rfl, hi⟩
  exact ⟨_, _, h.step_retried hr.retriedRead hlt, rfl, rfl, rfl, rfl, rfl, rfl, hdelay.step_handshake hm, rfl, rfl,
    rfl, rfl, rfl, rfl, ho⟩

/-- Settles O37: at the maximum no attempt follows, and the outcome is that of the read just made. -/
theorem budgetExhausted : Obligations.BudgetExhausted := by
  intro s hf hu ho hi hmax
  have h : AsksAck s := ⟨hf, hu, ho, hi⟩
  have hend : ∀ P : Prop, ¬(s.attempt < s.params.maxAttempts ∧ P) := fun _ hlt => Nat.not_lt.mpr hmax hlt.1
  have fails : ∀ r, clipRead 1 (readAnswer s) = r → NoAck r →
      ∃ t, step s = .next t ∧ t.fsm = .failure ∧ t.outcome = some (exhaustedOutcome r) ∧ t.lastrx = some r ∧
        t.uop = some closeRequest ∧ t.error = s.error ∧ t.attempt = s.attempt := by
    rintro r rfl hn
    exact ⟨_, h.step_exhausted hn (hend _), rfl, rfl, rfl, rfl, rfl, rfl⟩
  refine ⟨fun ha => fails .timedOut ?_ (.inl rfl), fun b hb ha => fails (.data [b]) ?_ (.inr ⟨b, hb, rfl⟩)⟩
  · obtain ha | ha := ha <;> simp [ha]
  · rw [ha, (clipRead_byte b).1]

/-! ## The release -/

theorem finalResult_error {s : State} {e : ErrorValue} (h : s.error = some e) : finalResult s = .error e := by
  simp only [finalResult, h]

theorem finalResult_reset {s : State} (h : s.error = none) (hm : s.mode = .reset) :
    finalResult s = .bool (acked s) := by
  simp only [finalResult, h, hm]

theorem finalResult_command {s : State} (h : s.error = none) (hm : s.mode = .command) :
    finalResult s = .status (if acked s then .ackReceived else .noAckReceived) := by
  simp only [finalResult, h, hm]

theorem finalResult_rawFrame {s : State} (h : s.error = none) (hm : s.mode = .rawFrame) :
    finalResult s = .bytes (decodeResponse s.acc) := by
  simp only [finalResult, h, hm]

theorem acked_iff (s : State) : acked s = true ↔ s.outcome = some .acknowledged := decide_eq_true_iff

/-- Settles O40: the close and the delivery are one step, and the result is that of the error or of the mode. -/
theorem delivery : Obligations.Delivery := by
  intro s hf hu ho hi
  have h : AsksClose s := ⟨hf, hu, ho, hi⟩
  refine ⟨_, h.step_eq, rfl, rfl, rfl, rfl, rfl, rfl, fun e he => ⟨finalResult_error he, ?_⟩,
    finalResult_reset, fun he hm hack => ?_, fun he hm hack => ?_, finalResult_rawFrame⟩
  · simp [errorCode, State.portClosed, he]
  · exact (finalResult_command (s := s.portClosed) he hm).trans (by rw [(acked_iff s.portClosed).mpr hack]; rfl)
  · have hno : acked s.portClosed = false := Bool.eq_false_iff.mpr (mt (acked_iff _).mp hack)
    exact (finalResult_command (s := s.portClosed) he hm).trans (by rw [hno]; rfl)

/-! ## Runs -/

theorem run_one {s t : State} (h : step s = .next t) : run 1 s = .next t := by rw [run, h]; rfl

theorem run_append {m n : Nat} {s t u : State} (hm : run m s = .next t) (hn : run n t = .next u) :
    run (m + n) s = .next u := by
  induction m generalizing s with
  | zero =>
    cases hm
    rwa [Nat.zero_add]
  | succ m ih =>
    obtain ⟨v, hstep, hrun⟩ := andThen_eq_next hm
    rw [Nat.succ_add, run, hstep]
    exact ih hrun

/-- What an invocation in progress keeps: the parameters, the host's events, the port, the control byte, the mode. -/
def SameSetup (s t : State) : Prop := SameHost s t ∧ t.port = s.port ∧ t.ctrl = s.ctrl ∧ t.mode = s.mode

theorem step_atRest {s : State} (hu : s.uop = none) (hh : s.host = []) : step s = .next s := by
  simp [step, fetch, hu, hh]

/-- With nothing presented by the host every step keeps the setup. -/
theorem step_sameSetup {s t : State} (hh : s.host = []) (h : step s = .next t) : SameSetup s t := by
  by_cases hu : s.uop = none
  · cases (step_atRest hu hh).symm.trans h
    exact ⟨⟨rfl, rfl⟩, rfl, rfl, rfl⟩
  · obtain ⟨hhost, ⟨-, -, -, -, -, -, -, hport⟩, hmode, hctrl, -⟩ := step_request_frame hu h
    exact ⟨hhost, hport, hctrl, hmode⟩

theorem SameSetup.trans {s t u : State} (h : SameSetup s t) (k : SameSetup t u) : SameSetup s u := by
  obtain ⟨⟨hparams, hhost⟩, hport, hctrl, hmode⟩ := h
  obtain ⟨⟨kparams, khost⟩, kport, kctrl, kmode⟩ := k
  exact ⟨⟨kparams.trans hparams, khost.trans hhost⟩, kport.trans hport, kctrl.trans hctrl, kmode.trans hmode⟩

/-- A property that a step keeps from every state with nothing presented by the host holds after a run. -/
theorem run_invariant {P : State → Prop} (hP : ∀ s t, P s → step s = .next t → P t) {k : Nat} {s u : State}
    (hs : P s) (h : run k s = .next u) : P u := by
  induction k generalizing s with
  | zero =>
    cases h
    exact hs
  | succ k ih =>
    obtain ⟨t, hstep, hrun⟩ := andThen_eq_next h
    exact ih (hP s t hs hstep) hrun

theorem run_sameSetup {k : Nat} {s u : State} (hh : s.host = []) (h : run k s = .next u) : SameSetup s u := by
  refine run_invariant (P := SameSetup s) (fun v w hv hstep => ?_) ⟨⟨rfl, rfl⟩, rfl, rfl, rfl⟩ h
  obtain ⟨⟨-, hhost⟩, -⟩ := id hv
  exact hv.trans (step_sameSetup (hhost.trans hh) hstep)

/-! ## The phases of a handshake -/

/-- The port is about to be opened, and nothing has happened. -/
def HandshakeOpens (s : State) : Prop :=
  AsksOpen s ∧ s.host = [] ∧ s.mode ≠ .rawFrame ∧ s.attempt = 0 ∧ s.trace = [] ∧ s.error = none ∧ s.done = false

/-- An attempt is under way after retried ones that the line answered with `rs`, and its own events are `last`. -/
def InAttempt (rs : List ReadOutcome) (last : List Event) (s : State) : Prop :=
  s.host = [] ∧ s.mode ≠ .rawFrame ∧ s.attempt = rs.length + 1 ∧
    s.trace = handshakeEvents s.port s.ctrl s.params.retryDelayMs rs ++ last ∧ s.done = false

/-- The events of an attempt whose read gave `r`. -/
def ackEvents (s : State) (r : ReadOutcome) : List Event :=
  [.evWrite [s.ctrl] .ok, .evRead 1 s.port.readTimeout r]

/-- The attempt's control byte is being written. -/
def AttemptWrites (rs : List ReadOutcome) (s : State) : Prop :=
  AsksWrite [s.ctrl] s ∧ InAttempt rs [] s ∧ s.error = none

/-- The attempt's one read is being made. -/
def AttemptReads (rs : List ReadOutcome) (s : State) : Prop :=
  AsksAck s ∧ InAttempt rs [.evWrite [s.ctrl] .ok] s ∧ s.error = none

/-- The line answered the attempt's read with `a`, and the delay before the next attempt is running. -/
def AttemptDelays (rs : List ReadOutcome) (a : ReadOutcome) (s : State) : Prop :=
  AsksDelay s ∧ PortHeld s ∧ InAttempt rs (ackEvents s (clipRead 1 a)) s ∧ s.error = none

/-- The attempt was the last one, and the port is being closed. -/
def AttemptCloses (rs : List ReadOutcome) (last : List Event) (s : State) : Prop :=
  AsksClose s ∧ InAttempt rs last s

/-- The attempt was the last one, the port is closed and the result delivered. -/
def AttemptOver (rs : List ReadOutcome) (last : List Event) (s : State) : Prop :=
  AtRest s ∧ s.host = [] ∧ s.done = true ∧ s.result = finalResult s ∧ s.attempt = rs.length + 1 ∧
    s.trace = handshakeEvents s.port s.ctrl s.params.retryDelayMs rs ++ last ++ [.evClose]

/-- The open was denied: its error is the result, and nothing else has happened. -/
def OpenFailed (c : Cause) (s : State) : Prop :=
  AtRest s ∧ s.host = [] ∧ s.done = true ∧ s.fsm = .failure ∧ s.attempt = 0 ∧
    s.error = some (.portOpenError s.port.id c) ∧ s.trace = [.evOpen s.port (.err c)]

/-- How an invocation ends: its terminal state, OUTCOME and the error. -/
def EndsAs (f : Fsm) (o : HandshakeOutcome) (e : Option ErrorValue) (s : State) : Prop :=
  s.fsm = f ∧ s.outcome = some o ∧ s.error = e

/-- What has been transmitted, and the answers that the line has yet to give. -/
def LineAt (tx : List Byte) (ws : List WriteAnswer) (rs : List ReadOutcome) (s : State) : Prop :=
  s.tx = tx ∧ s.writes = ws ∧ s.reads = rs

/-! ## The steps between the phases -/

theorem HandshakeOpens.granted {s : State} (h : HandshakeOpens s) (ha : openAnswer s = .ok) :
    ∃ t, step s = .next t ∧ AttemptWrites [] t ∧ LineAt s.tx s.writes s.reads t := by
  obtain ⟨hasks, hh, hm, -, htrace, herr, hdone⟩ := h
  obtain ⟨-, -, -, -, hi⟩ := id hasks
  have hevents : s.portGranted.trace = handshakeEvents s.port s.ctrl s.params.retryDelayMs [] ++ [] := by
    simp [State.portGranted, htrace, handshakeEvents]
  exact ⟨_, (hasks.step_granted ha).trans (afterOpen_handshake rfl hm),
    ⟨⟨rfl, rfl, List.cons_ne_nil _ _, rfl, hi⟩, ⟨hh, hm, rfl, hevents, hdone⟩, herr⟩, rfl, rfl, rfl⟩

theorem HandshakeOpens.denied {s : State} {c : Cause} (h : HandshakeOpens s) (ha : openAnswer s = .err c) :
    ∃ t, step s = .next t ∧ OpenFailed c t := by
  obtain ⟨hasks, hh, -, hattempt, htrace, -, -⟩ := h
  obtain ⟨-, -, hc, -⟩ := id hasks
  have hevents : (s.portDenied c).trace = [.evOpen s.port (.err c)] := by
    rw [State.portDenied, htrace, List.nil_append]
  exact ⟨_, hasks.step_denied ha, ⟨rfl, hc⟩, hh, rfl, rfl, hattempt, rfl, hevents⟩

theorem HandshakeOpens.held {s : State} (h : HandshakeOpens s) (ha : openAnswer s = .hold) :
    ∃ t, step s = .next t ∧ HandshakeOpens t := by
  obtain ⟨hasks, hkept⟩ := h
  obtain ⟨hf, -, hrest⟩ := id hasks
  exact ⟨_, hasks.step_held ha, ⟨hf, rfl, hrest⟩, hkept⟩

/-- An attempt's trace with one event more. -/
theorem InAttempt.trace_append {rs : List ReadOutcome} {last : List Event} {s : State} (h : InAttempt rs last s)
    (e : Event) :
    s.trace ++ [e] = handshakeEvents s.port s.ctrl s.params.retryDelayMs rs ++ (last ++ [e]) := by
  obtain ⟨-, -, -, htrace, -⟩ := h
  rw [htrace, List.append_assoc]

theorem AttemptWrites.taken {rs : List ReadOutcome} {s : State} (h : AttemptWrites rs s)
    (ha : writeAnswer s = .ok) :
    ∃ t, step s = .next t ∧ AttemptReads rs t ∧ LineAt (s.tx ++ [s.ctrl]) s.writes.tail s.reads t := by
  obtain ⟨hasks, hin, herr⟩ := h
  obtain ⟨-, -, -, ho, hi⟩ := id hasks
  obtain ⟨hh, hm, hattempt, -, hdone⟩ := id hin
  exact ⟨_, (hasks.step_taken ha).trans (afterWrite_handshake rfl hm),
    ⟨⟨rfl, rfl, ho, hi⟩, ⟨hh, hm, hattempt, hin.trace_append _, hdone⟩, herr⟩, rfl, rfl, rfl⟩

theorem AttemptWrites.failed {rs : List ReadOutcome} {s : State} {c : Cause} {k : Nat} (h : AttemptWrites rs s)
    (ha : writeAnswer s = .err c k) :
    ∃ t, step s = .next t ∧ AttemptCloses rs [.evWrite [s.ctrl] (.err c)] t ∧
      EndsAs .failure (.transportError c) (some (.writeError s.port.id c)) t := by
  obtain ⟨hasks, hin, -⟩ := h
  obtain ⟨-, -, -, ho, hi⟩ := id hasks
  obtain ⟨hh, hm, hattempt, -, hdone⟩ := id hin
  exact ⟨_, hasks.step_failed hm ha,
    ⟨⟨.inr rfl, rfl, ho, hi⟩, hh, hm, hattempt, hin.trace_append _, hdone⟩, rfl, rfl, rfl⟩

theorem AttemptWrites.held {rs : List ReadOutcome} {s : State} (h : AttemptWrites rs s)
    (ha : writeAnswer s = .hold) : ∃ t, step s = .next t ∧ AttemptWrites rs t := by
  obtain ⟨hasks, hkept⟩ := h
  obtain ⟨hf, -, hrest⟩ := id hasks
  exact ⟨_, hasks.step_held ha, ⟨hf, rfl, hrest⟩, hkept⟩

/-- Whatever ends the attempts at a read, the close is what follows. -/
theorem AttemptReads.closes {rs : List ReadOutcome} {s : State} (h : AttemptReads rs s) {f : Fsm}
    (hf : f = .success ∨ f = .failure) (o : HandshakeOutcome) (e : Option ErrorValue) :
    AttemptCloses rs (ackEvents s (clipRead 1 (readAnswer s)))
      { s.ackRead with fsm := f, outcome := some o, error := e, uop := some closeRequest } := by
  obtain ⟨⟨-, -, ho, hi⟩, hin, -⟩ := h
  obtain ⟨hh, hm, hattempt, -, hdone⟩ := id hin
  exact ⟨⟨hf, rfl, ho, hi⟩, hh, hm, hattempt, hin.trace_append _, hdone⟩

theorem AttemptReads.acknowledged {rs : List ReadOutcome} {s : State} (h : AttemptReads rs s)
    (ha : clipRead 1 (readAnswer s) = .data [0x00#8]) :
    ∃ t, step s = .next t ∧ AttemptCloses rs (ackEvents s (clipRead 1 (readAnswer s))) t ∧
      EndsAs .success .acknowledged none t ∧
      LineAt s.tx s.writes (leftOnLine 1 (readAnswer s) ++ s.reads.tail) t := by
  obtain ⟨hasks, -, herr⟩ := id h
  exact ⟨_, hasks.step_acknowledged ha, h.closes (.inl rfl) _ _, ⟨rfl, rfl, herr⟩, rfl, rfl, rfl⟩

theorem AttemptReads.failed {rs : List ReadOutcome} {s : State} {c : Cause} (h : AttemptReads rs s)
    (ha : clipRead 1 (readAnswer s) = .readError c) :
    ∃ t, step s = .next t ∧ AttemptCloses rs (ackEvents s (clipRead 1 (readAnswer s))) t ∧
      EndsAs .failure (.transportError c) (some (.readError s.port.id c)) t := by
  obtain ⟨hasks, ⟨-, hm, -⟩, -⟩ := id h
  exact ⟨_, hasks.step_readError hm ha, h.closes (.inr rfl) _ _, rfl, rfl, rfl⟩

theorem AttemptReads.exhausted {rs : List ReadOutcome} {s : State} (h : AttemptReads rs s)
    (hn : NoAck (clipRead 1 (readAnswer s)))
    (hend : ¬(s.attempt < s.params.maxAttempts ∧ RetriedRead s.params (clipRead 1 (readAnswer s)))) :
    ∃ t, step s = .next t ∧ AttemptCloses rs (ackEvents s (clipRead 1 (readAnswer s))) t ∧
      EndsAs .failure (exhaustedOutcome (clipRead 1 (readAnswer s))) none t ∧
      LineAt s.tx s.writes (leftOnLine 1 (readAnswer s) ++ s.reads.tail) t := by
  obtain ⟨hasks, -, herr⟩ := id h
  exact ⟨_, hasks.step_exhausted hn hend, h.closes (.inr rfl) _ _, ⟨rfl, rfl, herr⟩, rfl, rfl, rfl⟩

theorem AttemptReads.retried {rs : List ReadOutcome} {s : State} (h : AttemptReads rs s)
    (hr : RetriedRead s.params (clipRead 1 (readAnswer s))) (hlt : s.attempt < s.params.maxAttempts) :
    ∃ t, step s = .next t ∧ AttemptDelays rs (readAnswer s) t ∧
      LineAt s.tx s.writes (leftOnLine 1 (readAnswer s) ++ s.reads.tail) t := by
  obtain ⟨hasks, hin, herr⟩ := h
  obtain ⟨-, -, ho, hi⟩ := id hasks
  obtain ⟨hh, hm, hattempt, -, hdone⟩ := id hin
  exact ⟨_, hasks.step_retried hr hlt,
    ⟨⟨rfl, rfl, hi⟩, ho, ⟨hh, hm, hattempt, hin.trace_append _, hdone⟩, herr⟩, rfl, rfl, rfl⟩

theorem handshakeEvents_concat (port : PortConfig) (ctrl : Byte) (delay : Nat) (rs : List ReadOutcome)
    (a : ReadOutcome) :
    handshakeEvents port ctrl delay (rs ++ [a])
      = handshakeEvents port ctrl delay rs ++ retriedEvents ctrl port.readTimeout delay a := by
  simp [handshakeEvents]

/-- After the delay the retried attempt counts among those before the next one. -/
theorem AttemptDelays.delayed {rs : List ReadOutcome} {a : ReadOutcome} {s : State} (h : AttemptDelays rs a s) :
    ∃ t, step s = .next t ∧ AttemptWrites (rs ++ [a]) t ∧ LineAt s.tx s.writes s.reads t := by
  obtain ⟨hasks, ho, hin, herr⟩ := h
  obtain ⟨-, -, hi⟩ := id hasks
  obtain ⟨hh, hm, hattempt, -, hdone⟩ := id hin
  have hcount : s.attempt + 1 = (rs ++ [a]).length + 1 := by rw [hattempt, List.length_append]; rfl
  have hevents : s.retryDelayed.trace
      = handshakeEvents s.port s.ctrl s.params.retryDelayMs (rs ++ [a]) ++ [] := by
    rw [handshakeEvents_concat, List.append_nil]
    exact hin.trace_append _
  exact ⟨_, hasks.step_handshake hm,
    ⟨⟨rfl, rfl, List.cons_ne_nil _ _, ho, hi⟩, ⟨hh, hm, hcount, hevents, hdone⟩, herr⟩, rfl, rfl, rfl⟩

theorem AttemptCloses.closed {rs : List ReadOutcome} {last : List Event} {s : State} (h : AttemptCloses rs last s) :
    ∃ t, step s = .next t ∧ AttemptOver rs last t ∧ LineAt s.tx s.writes s.reads t ∧
      t.fsm = s.fsm ∧ t.outcome = s.outcome ∧ t.error = s.error := by
  obtain ⟨hasks, hin⟩ := h
  obtain ⟨hh, -, hattempt, -⟩ := id hin
  have hevents : s.portClosed.trace
      = handshakeEvents s.port s.ctrl s.params.retryDelayMs rs ++ last ++ [.evClose] := by
    rw [List.append_assoc]
    exact hin.trace_append _
  exact ⟨_, hasks.step_eq, ⟨⟨rfl, rfl⟩, hh, rfl, rfl, hattempt, hevents⟩,
    ⟨rfl, rfl, rfl⟩, rfl, rfl, rfl⟩

/-! ## The start of an invocation -/

/-- An invocation of a handshake with its operands, and the results that R144 gives it. -/
def RunsHandshake (p : Params) (port : PortConfig) (ctrl : Byte) (yes no : Result) (s : State) : Prop :=
  s.params = p ∧ s.port = port ∧ s.ctrl = ctrl ∧
    ∀ u : State, u.mode = s.mode → u.error = none → finalResult u = if acked u then yes else no

theorem RunsHandshake.of_sameSetup {p : Params} {port : PortConfig} {ctrl : Byte} {yes no : Result} {s t : State}
    (h : RunsHandshake p port ctrl yes no s) (k : SameSetup s t) : RunsHandshake p port ctrl yes no t := by
  obtain ⟨hparams, hport, hctrl, hresult⟩ := h
  obtain ⟨⟨kparams, -⟩, kport, kctrl, kmode⟩ := k
  exact ⟨kparams.trans hparams, kport.trans hport, kctrl.trans hctrl, fun u hu => hresult u (hu.trans kmode)⟩

/-- A handshake that answers a next state was given a port of 8 data bits. -/
theorem HandshakeOp.dataBits {i : Instr} {port : PortConfig} {ctrl : Byte} {yes no : Result} {s t : State}
    (h : HandshakeOp i port ctrl yes no) (hexec : exec i s = .next t) : port.dataBits = .eight := by
  cases h with
  | reset addr => exact (execReset_cases hexec).1
  | command addr opc => exact (execCommand_cases hexec).1

/-- At rest both operations start with the open of their port. -/
theorem HandshakeOp.starts {i : Instr} {port : PortConfig} {ctrl : Byte} {yes no : Result} {s : State}
    (h : HandshakeOp i port ctrl yes no) (hd : port.dataBits = .eight) (hc : s.handle = .closed)
    (hh : s.host = []) :
    ∃ t, exec i s = .next t ∧ HandshakeOpens t ∧ RunsHandshake s.params port ctrl yes no t ∧
      t.opens = s.opens ∧ LineAt s.tx s.writes s.reads t := by
  have hi : ∀ port : Text, intrusionOn port s.host = none := fun port => by rw [hh, intrusionOn_nil]
  cases h with
  | reset addr =>
    refine ⟨_, execReset_runs addr s hd, ⟨⟨rfl, rfl, hc, hd, hi _⟩, hh, nofun, rfl, rfl, rfl, rfl⟩,
      ⟨rfl, rfl, rfl, fun u hm he => ?_⟩, rfl, rfl, rfl, rfl⟩
    rw [finalResult_reset he hm]
    cases acked u <;> rfl
  | command addr opc =>
    refine ⟨_, execCommand_runs addr opc s hd, ⟨⟨rfl, rfl, hc, hd, hi _⟩, hh, nofun, rfl, rfl, rfl, rfl⟩,
      ⟨rfl, rfl, rfl, fun u hm he => ?_⟩, rfl, rfl, rfl, rfl⟩
    rw [finalResult_command he hm]
    cases acked u <;> rfl

/-! ## Runs that the line's answers fix -/

theorem openAnswer_cons {s : State} {a : OpenAnswer} {os : List OpenAnswer} (h : s.opens = a :: os) :
    openAnswer s = a := by rw [openAnswer, h, nextAnswer_cons]

theorem writeAnswer_cons {s : State} {a : WriteAnswer} {ws : List WriteAnswer} (h : s.writes = a :: ws) :
    writeAnswer s = a := by rw [writeAnswer, h, nextAnswer_cons]

theorem readAnswer_cons {s : State} {a : ReadOutcome} {rs : List ReadOutcome} (h : s.reads = a :: rs) :
    readAnswer s = a := by rw [readAnswer, h, nextAnswer_cons]

/-- One attempt that is retried takes three steps: the write, the read and the delay. -/
theorem AttemptWrites.run_retried {past : List ReadOutcome} {s : State} {tx : List Byte} {ws : List WriteAnswer}
    {rest : List ReadOutcome} {a : ReadOutcome} (h : AttemptWrites past s) (ha : Retried s a)
    (hlt : past.length + 1 < s.params.maxAttempts) (hline : LineAt tx (.ok :: ws) (a :: rest) s) :
    ∃ t, run 3 s = .next t ∧ AttemptWrites (past ++ [a]) t ∧ LineAt (tx ++ [s.ctrl]) ws rest t := by
  obtain ⟨rfl, hws, hrs⟩ := hline
  obtain ⟨-, ⟨hh, -⟩, -⟩ := id h
  obtain ⟨t, hwrite, hreads, htx, htw, htr⟩ := h.taken (writeAnswer_cons hws)
  obtain ⟨⟨hparams, -⟩, -⟩ := step_sameSetup hh hwrite
  have hans : readAnswer t = a := readAnswer_cons (htr.trans hrs)
  have hattempt : t.attempt < t.params.maxAttempts := by
    obtain ⟨-, ⟨-, -, hcount, -⟩, -⟩ := id hreads
    rwa [hcount, hparams]
  obtain ⟨u, hread, hdelays, hux, huw, hur⟩ := hreads.retried (by rw [hans, hparams]; exact ha.retriedRead) hattempt
  obtain ⟨v, hdelay, hwrites, hvx, hvw, hvr⟩ := hdelays.delayed
  refine ⟨v, run_append (run_append (run_one hwrite) (run_one hread)) (run_one hdelay), ?_, ?_, ?_, ?_⟩
  · rwa [hans] at hwrites
  · rw [hvx, hux, htx]
  · rw [hvw, huw, htw, hws, List.tail_cons]
  · rw [hvr, hur, hans, (Unacknowledged.noAck ha.1).2, htr, hrs, List.nil_append, List.tail_cons]

/-- Attempts that are retried, one after the other. -/
theorem AttemptWrites.run_allRetried {ws : List WriteAnswer} {rest : List ReadOutcome} (todo : List ReadOutcome)
    {past : List ReadOutcome} {s : State} {tx : List Byte} (h : AttemptWrites past s)
    (ha : ∀ a ∈ todo, Retried s a) (hle : past.length + todo.length < s.params.maxAttempts)
    (hline : LineAt tx (List.replicate todo.length .ok ++ ws) (todo ++ rest) s) :
    ∃ t, run (3 * todo.length) s = .next t ∧ AttemptWrites (past ++ todo) t ∧
      LineAt (tx ++ List.replicate todo.length s.ctrl) ws rest t := by
  induction todo generalizing past s tx with
  | nil => exact ⟨s, rfl, by rwa [List.append_nil], by simpa using hline⟩
  | cons a todo ih =>
    obtain ⟨-, ⟨hh, -⟩, -⟩ := id h
    have hlt : past.length + 1 < s.params.maxAttempts := by simp at hle; omega
    obtain ⟨t, hrun, hwrites, hlt'⟩ := h.run_retried (ha a List.mem_cons_self) hlt hline
    obtain ⟨⟨hparams, -⟩, -, hctrl, -⟩ := run_sameSetup hh hrun
    have hrest : ∀ b ∈ todo, Retried t b := fun b hb => (ha b (List.mem_cons_of_mem a hb)).of_params hparams
    have hle' : (past ++ [a]).length + todo.length < t.params.maxAttempts := by
      rw [hparams]
      simp at hle ⊢
      omega
    obtain ⟨u, hrun', hwrites', htx, hline'⟩ := ih hwrites hrest hle' hlt'
    refine ⟨u, ?_, by simpa using hwrites', ?_, hline'⟩
    · rw [List.length_cons, Nat.mul_succ, Nat.add_comm]
      exact run_append hrun hrun'
    · rw [htx, hctrl, List.append_assoc, List.length_cons, List.replicate_succ]
      rfl

/-- A handshake whose open and writes are answered Ok comes to its last read: `rs` are the answers that are retried,
and `last` is the answer still to come. -/
theorem HandshakeOp.run_toLastRead {s : State} {i : Instr} {port : PortConfig} {ctrl : Byte} {yes no : Result}
    {rs rest : List ReadOutcome} {last : ReadOutcome} {os : List OpenAnswer} {ws : List WriteAnswer}
    (hop : HandshakeOp i port ctrl yes no) (hd : port.dataBits = .eight) (hc : s.handle = .closed)
    (hh : s.host = []) (hle : rs.length + 1 ≤ s.params.maxAttempts) (hrs : ∀ r ∈ rs, Retried s r)
    (hopens : s.opens = .ok :: os) (hwrites : s.writes = List.replicate (rs.length + 1) .ok ++ ws)
    (hreads : s.reads = rs ++ last :: rest) :
    ∃ t v, exec i s = .next t ∧ run (3 * rs.length + 2) t = .next v ∧ AttemptReads rs v ∧ readAnswer v = last ∧
      RunsHandshake s.params port ctrl yes no v ∧
      LineAt (s.tx ++ List.replicate (rs.length + 1) ctrl) ws (last :: rest) v := by
  obtain ⟨t, hexec, hopening, hruns, htopens, htx, htw, htr⟩ := hop.starts hd hc hh
  obtain ⟨-, hth, -⟩ := id hopening
  obtain ⟨u, hopen, hfirst, hux, huw, hur⟩ := hopening.granted (openAnswer_cons (htopens.trans hopens))
  obtain ⟨huparams, -, huctrl, -⟩ := hruns.of_sameSetup (step_sameSetup hth hopen)
  have hretried : ∀ r ∈ rs, Retried u r := fun r hr => (hrs r hr).of_params huparams
  have hline : LineAt s.tx (List.replicate rs.length .ok ++ .ok :: ws) (rs ++ last :: rest) u := by
    refine ⟨hux.trans htx, ?_, (hur.trans htr).trans hreads⟩
    rw [huw, htw, hwrites, List.replicate_succ', List.append_assoc]
    rfl
  obtain ⟨v, hretries, hlast, hvx, hvw, hvr⟩ :=
    hfirst.run_allRetried rs hretried (by simpa [huparams] using hle) hline
  have hrun : run (1 + 3 * rs.length) t = .next v := run_append (run_one hopen) hretries
  have hvruns := hruns.of_sameSetup (run_sameSetup hth hrun)
  obtain ⟨-, -, hvctrl, -⟩ := id hvruns
  obtain ⟨w, hwrite, hread, hwx, hww, hwr⟩ := hlast.taken (writeAnswer_cons hvw)
  obtain ⟨-, ⟨hvh, -⟩, -⟩ := id hlast
  refine ⟨t, w, hexec, ?_, hread, readAnswer_cons (hwr.trans hvr), hvruns.of_sameSetup (step_sameSetup hvh hwrite),
    ?_, ?_, hwr.trans hvr⟩
  · rw [show 3 * rs.length + 2 = 1 + 3 * rs.length + 1 by omega]
    exact run_append hrun (run_one hwrite)
  · rw [hwx, hvx, hvctrl, huctrl, List.append_assoc, List.replicate_succ']
  · rw [hww, hvw, List.tail_cons]

/-- The two last steps of an invocation that ends without an error: the transition out of `AwaitingAck` and the close,
with the result of R144. -/
theorem AttemptReads.run_ends {p : Params} {port : PortConfig} {ctrl : Byte} {yes no : Result}
    {rs : List ReadOutcome} {s t : State} {f : Fsm} {o : HandshakeOutcome} (h : AttemptReads rs s)
    (hruns : RunsHandshake p port ctrl yes no s) (hstep : step s = .next t)
    (hcloses : AttemptCloses rs (ackEvents s (clipRead 1 (readAnswer s))) t) (hends : EndsAs f o none t) :
    ∃ u, run 2 s = .next u ∧ u.fsm = f ∧ u.attempt = rs.length + 1 ∧ u.outcome = some o ∧
      u.result = (if o = .acknowledged then yes else no) ∧ u.done = true ∧ AtRest u ∧
      LineAt t.tx t.writes t.reads u ∧
      u.trace = handshakeEvents port ctrl p.retryDelayMs rs ++
        [.evWrite [ctrl] .ok, .evRead 1 port.readTimeout (clipRead 1 (readAnswer s)), .evClose] := by
  obtain ⟨-, ⟨hh, -⟩, -⟩ := id h
  obtain ⟨hfsm, hout, herr⟩ := hends
  obtain ⟨u, hclose, ⟨hrest, -, hdone, hresult, hattempt, htrace⟩, hline, hufsm, huout, huerr⟩ := hcloses.closed
  have hrun : run 2 s = .next u := run_append (run_one hstep) (run_one hclose)
  have hu := hruns.of_sameSetup (run_sameSetup hh hrun)
  obtain ⟨hparams, hport, hctrl, hres⟩ := id hu
  refine ⟨u, hrun, hufsm.trans hfsm, hattempt, huout.trans hout, ?_, hdone, hrest, hline, ?_⟩
  · rw [hresult, hres u rfl (huerr.trans herr), acked, huout, hout]
    simp
  · obtain ⟨-, hsport, hsctrl, -⟩ := hruns
    rw [htrace, hparams, hport, hctrl, ackEvents, hsport, hsctrl, List.append_assoc]
    rfl

/-- Settles O43: the run to the last read, and the two steps after the byte 0x00. -/
theorem handshakeAcknowledged : Obligations.HandshakeAcknowledged := by
  intro s i port ctrl yes no rs rest os ws hop hd hc hh hle hrs hopens hwrites hreads
  obtain ⟨t, v, hexec, hrun, hread, hans, hruns, hvx, hvw, hvr⟩ :=
    hop.run_toLastRead hd hc hh hle hrs hopens hwrites hreads
  obtain ⟨hclip, hleft⟩ := clipRead_byte 0x00#8
  obtain ⟨w, hack, hcloses, hends, hwx, -, hwr⟩ := hread.acknowledged (by rw [hans, hclip])
  obtain ⟨u, hend, hfsm, hattempt, hout, hresult, hdone, hrest, ⟨hux, -, hur⟩, htrace⟩ :=
    hread.run_ends hruns hack hcloses hends
  refine ⟨t, u, hexec, run_append (m := 3 * rs.length + 2) hrun hend, hfsm, hattempt, hout,
    hresult.trans (if_pos rfl), hdone, hrest, ?_, ?_, ?_⟩
  · rw [hux, hwx, hvx]
  · rw [hur, hwr, hans, hleft, hvr, List.tail_cons, List.nil_append]
  · rw [htrace, hans, hclip]

/-- The outcome of a last attempt, by the bytes that the line answered (42_handshake R141). -/
theorem Unacknowledged.exhaustedOutcome {a : ReadOutcome} (h : Unacknowledged a) :
    exhaustedOutcome (clipRead 1 a) = if bytesOf a = [] then .timedOut else .notAcknowledged (bytesOf a) := by
  obtain ⟨hbytes, hclip, -⟩ | ⟨b, -, rfl⟩ := h.cases
  · rw [hclip, if_pos hbytes]
    rfl
  · rw [(clipRead_byte b).1]
    rfl

/-- Settles O44: the run to the last read, and the two steps after an answer that exhausts the budget. -/
theorem handshakeExhausted : Obligations.HandshakeExhausted := by
  intro s i port ctrl yes no rs rest last os ws hop hd hc hh hmax hrs hlast hopens hwrites hreads
  obtain ⟨t, v, hexec, hrun, hread, hans, hruns, hvx, -, -⟩ :=
    hop.run_toLastRead hd hc hh hmax.le hrs hopens hwrites hreads
  have hspent : ¬ v.attempt < v.params.maxAttempts := by
    obtain ⟨-, ⟨-, -, hattempt, -⟩, -⟩ := id hread
    obtain ⟨hparams, -⟩ := id hruns
    rw [hattempt, hparams, hmax]
    exact Nat.lt_irrefl _
  obtain ⟨w, hexhaust, hcloses, hends, hwx, -, -⟩ :=
    hread.exhausted (by rw [hans]; exact (Unacknowledged.noAck hlast).1) (fun h => hspent h.1)
  obtain ⟨u, hend, hfsm, hattempt, hout, hresult, hdone, hrest, ⟨hux, -, -⟩, htrace⟩ :=
    hread.run_ends hruns hexhaust hcloses hends
  rw [hans, Unacknowledged.exhaustedOutcome hlast] at hout hresult
  refine ⟨t, u, hexec, run_append (m := 3 * rs.length + 2) hrun hend, hfsm, hattempt.trans hmax,
    hresult.trans (if_neg ?_), hdone, hrest, hout, ?_, ?_⟩
  · split <;> nofun
  · rw [hux, hwx, hvx]
  · rw [htrace, hans]

/-! ## The budget and the last attempt -/

/-- The attempts answered by `rs` were all retried, and the budget has room for one more. -/
def WithinBudget (rs : List ReadOutcome) (s : State) : Prop :=
  (∀ a ∈ rs, RetriedRead s.params (clipRead 1 a)) ∧ rs.length + 1 ≤ s.params.maxAttempts

/-- What a read of the last attempt says of the end: Success exactly on 0x00, and no giving up before the budget is
spent but at a non-ACK byte under ABORT_ON_NONACK (42_handshake R141, R143; log 17). -/
def LastRead (n : Nat) (r : ReadOutcome) (s : State) : Prop :=
  (s.fsm = .success ↔ r = .data [0x00#8]) ∧ (r = .timedOut → n = s.params.maxAttempts) ∧
    ∀ b : Byte, b ≠ 0x00#8 → r = .data [b] → n = s.params.maxAttempts ∨ s.params.abortOnNonack = true

/-- The events of the last attempt, a failed write or a write and a read; and the open was not denied. -/
def LastAttempt (n : Nat) (last : List Event) (s : State) : Prop :=
  ((∃ c, last = [.evWrite [s.ctrl] (.err c)] ∧ s.fsm = .failure) ∨
    ∃ r, last = ackEvents s r ∧ LastRead n r s) ∧
  ∀ port c, s.error ≠ some (.portOpenError port c)

/-- The last attempt is made, and the port is being closed. -/
def HandshakeEnds (s : State) : Prop :=
  ∃ rs last, AttemptCloses rs last s ∧ WithinBudget rs s ∧ LastAttempt (rs.length + 1) last s

/-- The last attempt is made, and the result is delivered. -/
def HandshakeEnded (s : State) : Prop :=
  ∃ rs last, AttemptOver rs last s ∧ WithinBudget rs s ∧ LastAttempt (rs.length + 1) last s

theorem WithinBudget.of_sameSetup {rs : List ReadOutcome} {s t : State} (h : WithinBudget rs s)
    (k : SameSetup s t) : WithinBudget rs t := by
  obtain ⟨⟨hparams, -⟩, -⟩ := k
  rwa [WithinBudget, hparams]

theorem LastAttempt.of_sameSetup {n : Nat} {last : List Event} {s t : State} (h : LastAttempt n last s)
    (k : SameSetup s t) (hf : t.fsm = s.fsm) (he : t.error = s.error) : LastAttempt n last t := by
  obtain ⟨⟨hparams, -⟩, hport, hctrl, -⟩ := k
  simpa only [LastAttempt, LastRead, ackEvents, hparams, hport, hctrl, hf, he] using h

theorem lastRead_acknowledged {n : Nat} {s : State} (hf : s.fsm = .success) : LastRead n (.data [0x00#8]) s := by
  refine ⟨⟨fun _ => rfl, fun _ => hf⟩, nofun, fun b hb h => ?_⟩
  cases h
  exact absurd rfl hb

theorem lastRead_failed {n : Nat} {c : Cause} {s : State} (hf : s.fsm = .failure) : LastRead n (.readError c) s := by
  refine ⟨?_, nofun, nofun⟩
  rw [hf]
  exact ⟨nofun, nofun⟩

/-- Where no attempt may follow, the budget is spent or ABORT_ON_NONACK has ended the retries. -/
theorem lastRead_exhausted {n : Nat} {r : ReadOutcome} {s : State} (hn : NoAck r) (hle : n ≤ s.params.maxAttempts)
    (hend : ¬(n < s.params.maxAttempts ∧ RetriedRead s.params r)) (hf : s.fsm = .failure) : LastRead n r s := by
  have spent : RetriedRead s.params r → n = s.params.maxAttempts := fun hr =>
    Nat.le_antisymm hle (Nat.not_lt.mp fun hlt => hend ⟨hlt, hr⟩)
  refine ⟨?_, fun hr => spent (.inl hr), fun b hb hr => ?_⟩
  · rw [hf]
    refine ⟨nofun, fun hr => ?_⟩
    obtain h | ⟨b, hb, h⟩ := hn
    · cases h.symm.trans hr
    · cases h.symm.trans hr
      exact absurd rfl hb
  · cases habort : s.params.abortOnNonack with
    | true => exact .inr rfl
    | false => exact .inl (spent (.inr ⟨habort, b, hb, hr⟩))

/-! ## What a step does in each phase -/

theorem HandshakeOpens.progress {s : State} (h : HandshakeOpens s) (hmax : 1 ≤ s.params.maxAttempts) :
    ∃ t, step s = .next t ∧
      ((openAnswer s = .hold ∧ HandshakeOpens t) ∨ (AttemptWrites [] t ∧ WithinBudget [] t ∧ t.writes = s.writes) ∨
        ∃ c, OpenFailed c t) := by
  obtain ⟨-, hh, -⟩ := id h
  cases ha : openAnswer s with
  | hold =>
    obtain ⟨t, hstep, ht⟩ := h.held ha
    exact ⟨t, hstep, .inl ⟨rfl, ht⟩⟩
  | ok =>
    obtain ⟨t, hstep, ht, -, hwrites, -⟩ := h.granted ha
    have hb : WithinBudget [] s := ⟨nofun, hmax⟩
    exact ⟨t, hstep, .inr (.inl ⟨ht, hb.of_sameSetup (step_sameSetup hh hstep), hwrites⟩)⟩
  | err c =>
    obtain ⟨t, hstep, ht⟩ := h.denied ha
    exact ⟨t, hstep, .inr (.inr ⟨c, ht⟩)⟩

theorem AttemptWrites.progress {rs : List ReadOutcome} {s : State} (h : AttemptWrites rs s) (hb : WithinBudget rs s) :
    ∃ t, step s = .next t ∧
      ((writeAnswer s = .hold ∧ AttemptWrites rs t ∧ WithinBudget rs t) ∨
        (AttemptReads rs t ∧ WithinBudget rs t ∧ t.writes = s.writes.tail) ∨ HandshakeEnds t) := by
  obtain ⟨-, ⟨hh, -⟩, -⟩ := id h
  cases ha : writeAnswer s with
  | hold =>
    obtain ⟨t, hstep, ht⟩ := h.held ha
    exact ⟨t, hstep, .inl ⟨rfl, ht, hb.of_sameSetup (step_sameSetup hh hstep)⟩⟩
  | ok =>
    obtain ⟨t, hstep, ht, -, hwrites, -⟩ := h.taken ha
    exact ⟨t, hstep, .inr (.inl ⟨ht, hb.of_sameSetup (step_sameSetup hh hstep), hwrites⟩)⟩
  | err c k =>
    obtain ⟨t, hstep, ht, hf, -, he⟩ := h.failed ha
    have hsetup := step_sameSetup hh hstep
    obtain ⟨-, -, hctrl, -⟩ := id hsetup
    exact ⟨t, hstep, .inr (.inr ⟨rs, _, ht, hb.of_sameSetup hsetup, .inl ⟨c, by rw [hctrl], hf⟩, by simp [he]⟩)⟩

theorem AttemptReads.progress {rs : List ReadOutcome} {s : State} (h : AttemptReads rs s) (hb : WithinBudget rs s) :
    ∃ t, step s = .next t ∧
      ((AttemptDelays rs (readAnswer s) t ∧ WithinBudget (rs ++ [readAnswer s]) t ∧ t.writes = s.writes) ∨
        HandshakeEnds t) := by
  obtain ⟨-, ⟨hh, -, hattempt, -⟩, -⟩ := id h
  have ends : ∀ t, step s = .next t → AttemptCloses rs (ackEvents s (clipRead 1 (readAnswer s))) t →
      LastRead (rs.length + 1) (clipRead 1 (readAnswer s)) t → (∀ port c, t.error ≠ some (.portOpenError port c)) →
      HandshakeEnds t := by
    intro t hstep ht hlast herr
    have hsetup := step_sameSetup hh hstep
    obtain ⟨-, hport, hctrl, -⟩ := id hsetup
    exact ⟨rs, _, ht, hb.of_sameSetup hsetup, .inr ⟨_, by rw [ackEvents, ackEvents, hport, hctrl], hlast⟩, herr⟩
  obtain ⟨c, ha⟩ | ha | hn := clipRead_one_cases (readAnswer s)
  · obtain ⟨t, hstep, ht, hf, -, he⟩ := h.failed ha
    exact ⟨t, hstep, .inr (ends t hstep ht (ha ▸ lastRead_failed hf) (by simp [he]))⟩
  · obtain ⟨t, hstep, ht, ⟨hf, -, he⟩, -⟩ := h.acknowledged ha
    exact ⟨t, hstep, .inr (ends t hstep ht (ha ▸ lastRead_acknowledged hf) (by simp [he]))⟩
  · by_cases hmay : s.attempt < s.params.maxAttempts ∧ RetriedRead s.params (clipRead 1 (readAnswer s))
    · obtain ⟨hlt, hr⟩ := hmay
      obtain ⟨t, hstep, ht, -, hwrites, -⟩ := h.retried hr hlt
      have hroom : WithinBudget (rs ++ [readAnswer s]) s := by
        refine ⟨fun a ha => ?_, by simpa [hattempt] using hlt⟩
        obtain ha | rfl := by simpa using ha
        · exact hb.1 a ha
        · exact hr
      exact ⟨t, hstep, .inl ⟨ht, hroom.of_sameSetup (step_sameSetup hh hstep), hwrites⟩⟩
    · obtain ⟨t, hstep, ht, ⟨hf, -, he⟩, -⟩ := h.exhausted hn hmay
      obtain ⟨⟨hparams, -⟩, -⟩ := step_sameSetup hh hstep
      rw [hattempt, ← hparams] at hmay
      exact ⟨t, hstep, .inr (ends t hstep ht (lastRead_exhausted hn (hparams ▸ hb.2) hmay hf) (by simp [he]))⟩

theorem HandshakeEnds.progress {s : State} (h : HandshakeEnds s) : ∃ t, step s = .next t ∧ HandshakeEnded t := by
  obtain ⟨rs, last, ht, hb, hlast⟩ := h
  obtain ⟨-, hh, -⟩ := id ht
  obtain ⟨t, hstep, hover, -, hf, -, he⟩ := ht.closed
  have hsetup := step_sameSetup hh hstep
  exact ⟨t, hstep, rs, last, hover, hb.of_sameSetup hsetup, hlast.of_sameSetup hsetup hf he⟩

/-! ## Termination -/

theorem nextAnswer_mem {α : Type} {q : List α} (h : q ≠ []) (free : Nat → α) (n : Nat) : nextAnswer q free n ∈ q := by
  cases q with
  | nil => exact absurd rfl h
  | cons a q => exact List.mem_cons_self

theorem HandshakeEnds.terminates {s : State} (h : HandshakeEnds s) : ∃ u, run 1 s = .next u ∧ HandshakeEnded u := by
  obtain ⟨u, hstep, hu⟩ := h.progress
  exact ⟨u, run_one hstep, hu⟩

/-- From the write of an attempt with `d` left in the budget, the handshake ends within three steps for each. -/
theorem AttemptWrites.terminates (d : Nat) {rs : List ReadOutcome} {s : State} (h : AttemptWrites rs s)
    (hb : WithinBudget rs s) (hd : s.params.maxAttempts ≤ rs.length + d) (hlen : d ≤ s.writes.length)
    (hno : WriteAnswer.hold ∉ s.writes) : ∃ n u, n ≤ 3 * d ∧ run n s = .next u ∧ HandshakeEnded u := by
  induction d generalizing rs s with
  | zero => exact absurd (hb.2.trans hd) (Nat.not_succ_le_self _)
  | succ d ih =>
    have hne : s.writes ≠ [] := List.ne_nil_of_length_pos (Nat.lt_of_lt_of_le d.succ_pos hlen)
    obtain ⟨-, ⟨hh, -⟩, -⟩ := id h
    obtain ⟨t, hwrite, ⟨ha, -⟩ | ⟨hreads, htb, htw⟩ | hends⟩ := h.progress hb
    · exact absurd (ha ▸ nextAnswer_mem hne _ _) hno
    · obtain ⟨v, hread, ⟨hdelays, hvb, hvw⟩ | hends⟩ := hreads.progress htb
      · obtain ⟨w, hdelay, hwrites, -, hww, -⟩ := hdelays.delayed
        obtain ⟨-, -, ⟨hvh, -⟩, -⟩ := id hdelays
        have hrun : run 3 s = .next w := run_append (run_append (run_one hwrite) (run_one hread)) (run_one hdelay)
        have hline : w.writes = s.writes.tail := hww.trans (hvw.trans htw)
        obtain ⟨⟨hparams, -⟩, -⟩ := run_sameSetup hh hrun
        obtain ⟨n, u, hn, hrest, hu⟩ := ih hwrites (hvb.of_sameSetup (step_sameSetup hvh hdelay))
          (by rw [hparams, List.length_append, List.length_singleton]; omega)
          (by rw [hline, List.length_tail]; omega)
          (by rw [hline]; exact fun hmem => hno (List.mem_of_mem_tail hmem))
        exact ⟨3 + n, u, by omega, run_append hrun hrest, hu⟩
      · obtain ⟨u, hend, hu⟩ := hends.terminates
        exact ⟨3, u, by omega, run_append (run_append (run_one hwrite) (run_one hread)) hend, hu⟩
    · obtain ⟨u, hend, hu⟩ := hends.terminates
      exact ⟨2, u, by omega, run_append (run_one hwrite) hend, hu⟩

/-- Settles O45: the open and then the attempts, each within three steps. -/
theorem handshakeTerminates : Obligations.HandshakeTerminates := by
  intro s i port ctrl yes no hop hd hc hh hmax ⟨hopens, hohold, hlen, hwhold⟩
  obtain ⟨t, hexec, ht, hruns, hto, -, htw, -⟩ := hop.starts hd hc hh
  obtain ⟨-, hth, -⟩ := id ht
  obtain ⟨hparams, hport, -⟩ := id hruns
  refine ⟨t, hexec, ?_⟩
  obtain ⟨v, hopen, ⟨ha, -⟩ | ⟨hwrites, hb, hvw⟩ | ⟨c, hfail⟩⟩ := ht.progress (hparams ▸ hmax)
  · exact absurd (ha ▸ hto ▸ nextAnswer_mem (hto ▸ hopens) _ _) hohold
  · obtain ⟨⟨hvparams, -⟩, -⟩ := step_sameSetup hth hopen
    obtain ⟨n, u, hn, hrun, hended⟩ := hwrites.terminates s.params.maxAttempts hb
      (by rw [hvparams, hparams, List.length_nil, Nat.zero_add]) (by rw [hvw, htw]; exact hlen)
      (by rw [hvw, htw]; exact hwhold)
    have hall : run (1 + n) t = .next u := run_append (run_one hopen) hrun
    obtain ⟨⟨huparams, -⟩, -⟩ := run_sameSetup hth hall
    obtain ⟨rs, last, ⟨hrest, -, hdone, -, hattempt, -⟩, ⟨-, hle⟩, -, herr⟩ := hended
    refine ⟨1 + n, u, by omega, hall, hdone, hrest, ?_, fun h0 => ?_, fun ⟨c, he⟩ => absurd he (herr _ c)⟩
    · rwa [hattempt, ← hparams, ← huparams]
    · exact absurd (hattempt.symm.trans h0) (Nat.succ_ne_zero _)
  · obtain ⟨-, hvport, -⟩ := step_sameSetup hth hopen
    obtain ⟨hrest, -, hdone, -, hattempt, herr, -⟩ := hfail
    rw [hvport, hport] at herr
    exact ⟨1, v, by omega, run_one hopen, hdone, hrest, hattempt ▸ Nat.zero_le _, fun _ => ⟨c, herr⟩, fun _ => hattempt⟩

/-! ## The trace of every run -/

/-- The phases of a handshake, each with what it says of the budget. -/
inductive HandshakePhase : State → Prop where
  | opens {s : State} : HandshakeOpens s → 1 ≤ s.params.maxAttempts → HandshakePhase s
  | writes {rs : List ReadOutcome} {s : State} : AttemptWrites rs s → WithinBudget rs s → HandshakePhase s
  | reads {rs : List ReadOutcome} {s : State} : AttemptReads rs s → WithinBudget rs s → HandshakePhase s
  | delays {rs : List ReadOutcome} {a : ReadOutcome} {s : State} :
      AttemptDelays rs a s → WithinBudget (rs ++ [a]) s → HandshakePhase s
  | ends {s : State} : HandshakeEnds s → HandshakePhase s
  | ended {s : State} : HandshakeEnded s → HandshakePhase s
  | failed {c : Cause} {s : State} : OpenFailed c s → HandshakePhase s

/-- Every step of a handshake leads from a phase to a phase. -/
theorem HandshakePhase.of_step {s t : State} (h : HandshakePhase s) (hstep : step s = .next t) :
    HandshakePhase t := by
  have next : (∃ v, step s = .next v ∧ HandshakePhase v) → HandshakePhase t := by
    rintro ⟨v, hv, hphase⟩
    cases hv.symm.trans hstep
    exact hphase
  apply next
  cases h with
  | opens h hmax =>
    obtain ⟨-, hh, -⟩ := id h
    obtain ⟨v, hv, ⟨-, ho⟩ | ⟨hw, hb, -⟩ | ⟨c, hf⟩⟩ := h.progress hmax
    · obtain ⟨⟨hp, -⟩, -⟩ := step_sameSetup hh hv
      exact ⟨v, hv, .opens ho (hp ▸ hmax)⟩
    · exact ⟨v, hv, .writes hw hb⟩
    · exact ⟨v, hv, .failed hf⟩
  | writes h hb =>
    obtain ⟨v, hv, ⟨-, hw, hb⟩ | ⟨hr, hb, -⟩ | he⟩ := h.progress hb
    · exact ⟨v, hv, .writes hw hb⟩
    · exact ⟨v, hv, .reads hr hb⟩
    · exact ⟨v, hv, .ends he⟩
  | reads h hb =>
    obtain ⟨v, hv, ⟨hd, hb, -⟩ | he⟩ := h.progress hb
    · exact ⟨v, hv, .delays hd hb⟩
    · exact ⟨v, hv, .ends he⟩
  | delays h hb =>
    obtain ⟨-, -, ⟨hh, -⟩, -⟩ := id h
    obtain ⟨v, hv, hw, -⟩ := h.delayed
    exact ⟨v, hv, .writes hw (hb.of_sameSetup (step_sameSetup hh hv))⟩
  | ends h =>
    obtain ⟨v, hv, he⟩ := h.progress
    exact ⟨v, hv, .ended he⟩
  | ended h =>
    obtain ⟨-, -, ⟨⟨hu, -⟩, hh, -⟩, -⟩ := id h
    exact ⟨s, step_atRest hu hh, .ended h⟩
  | failed h =>
    obtain ⟨⟨hu, -⟩, hh, -⟩ := id h
    exact ⟨s, step_atRest hu hh, .failed h⟩

/-- A phase in which the result is delivered is the last one. -/
theorem HandshakePhase.of_done {s : State} (h : HandshakePhase s) (hd : s.done = true) :
    HandshakeEnded s ∨ ∃ c, OpenFailed c s := by
  have busy : s.done = false → HandshakeEnded s ∨ ∃ c, OpenFailed c s := fun hf => by simp [hf] at hd
  cases h with
  | opens h =>
    obtain ⟨-, -, -, -, -, -, hf⟩ := h
    exact busy hf
  | writes h =>
    obtain ⟨-, ⟨-, -, -, -, hf⟩, -⟩ := h
    exact busy hf
  | reads h =>
    obtain ⟨-, ⟨-, -, -, -, hf⟩, -⟩ := h
    exact busy hf
  | delays h =>
    obtain ⟨-, -, ⟨-, -, -, -, hf⟩, -⟩ := h
    exact busy hf
  | ends h =>
    obtain ⟨-, -, ⟨-, -, -, -, -, hf⟩, -⟩ := h
    exact busy hf
  | ended h => exact .inl h
  | failed h => exact .inr ⟨_, h⟩

/-- What a read has clipped it leaves alone. -/
theorem clipRead_clipRead (cap : Nat) (a : ReadOutcome) : clipRead cap (clipRead cap a) = clipRead cap a := by
  cases a with
  | timedOut | readError c => rfl
  | data bs => cases h : (bs.take cap).isEmpty <;> simp [clipRead, h, List.take_take]

theorem handshakeEvents_map_clipRead (port : PortConfig) (ctrl : Byte) (delay : Nat) (rs : List ReadOutcome) :
    handshakeEvents port ctrl delay (rs.map (clipRead 1)) = handshakeEvents port ctrl delay rs := by
  have hevents : ∀ a, retriedEvents ctrl port.readTimeout delay (clipRead 1 a)
      = retriedEvents ctrl port.readTimeout delay a := fun a => by
    rw [retriedEvents, retriedEvents, clipRead_clipRead]
  simp only [handshakeEvents, List.flatMap_map, hevents]

/-- Settles O46: a finished run is in one of the two last phases, and it has kept the setup of its start. -/
theorem handshakeTrace : Obligations.HandshakeTrace := by
  intro s t u i port ctrl yes no k hop hc hh hmax hexec hrun hdone
  obtain ⟨t', hexec', ht, hruns, -⟩ := hop.starts (hop.dataBits hexec) hc hh
  cases hexec'.symm.trans hexec
  obtain ⟨-, hth, -⟩ := id ht
  have htmax : 1 ≤ t.params.maxAttempts := by rwa [hruns.1]
  obtain ⟨hparams, hport, hctrl, -⟩ := hruns.of_sameSetup (run_sameSetup hth hrun)
  have hphase : HandshakePhase u := run_invariant (fun _ _ h => h.of_step) (.opens ht htmax) hrun
  obtain ⟨rs, last, ⟨-, -, -, -, hattempt, htrace⟩, ⟨hrs, hle⟩, hlast, -⟩ | ⟨c, -, -, -, hf, hattempt, -, htrace⟩ :=
    hphase.of_done hdone
  · refine .inr ⟨rs.map (clipRead 1), last, ?_, ?_, ?_, ?_, ?_⟩
    · rw [htrace, handshakeEvents_map_clipRead, hport, hctrl, hparams]
    · rw [List.forall_mem_map, ← hparams]
      exact hrs
    · rw [hattempt, List.length_map]
    · rwa [hattempt, ← hparams]
    · obtain ⟨c, hw, hf⟩ | ⟨r, hr, hsuccess, htimeout, hbyte⟩ := hlast
      · exact .inl ⟨c, by rw [hw, hctrl], hf⟩
      · rw [← hattempt, hparams] at htimeout hbyte
        exact .inr ⟨r, by rw [hr, ackEvents, hctrl, hport], hsuccess, htimeout, hbyte⟩
  · exact .inl ⟨c, by rw [htrace, hport], hattempt, hf⟩

end Sys2Proof.Machine
end

section
/-! The family of 43_rawsend: the start of a RAWSEND, the transitions of the collector, the absence of any retry, the
runs that the line's answers fix, and the trace of every run. -/

namespace Sys2Proof.Machine

/-! ## The start of a RAWSEND -/

theorem payloadOverlong_eq_false (s : State) (payload : List Byte) :
    payloadOverlong s payload = false ↔ ∀ m, s.params.payloadMax = some m → payload.length ≤ m := by
  cases h : s.params.payloadMax <;> simp [payloadOverlong, h]

theorem payloadOverlong_of_lt {s : State} {payload : List Byte} {m : Nat} (hm : s.params.payloadMax = some m)
    (hlt : m < payload.length) : payloadOverlong s payload = true := by
  simp [payloadOverlong, hm, hlt]

/-- Settles O30: the start values, with the generator run over the payload; the payload's length is looked at first. -/
theorem rawsendStarts : Obligations.RawsendStarts := by
  refine ⟨fun s port payload rto explen hd hfits => ?_, fun s port payload rto explen m hd hm hlt => ?_⟩
  · have hw : 8 ≤ s.params.sumWidth := Nat.le_trans (by decide) (Nat.le_add_right 16 _)
    have hchk := ofNat_runningSum hw payload
    rw [runningSum_eq] at hchk
    rw [execRawsend_runs rto explen (portRefusal_eq_none.mpr hd) hfits]
    simp only [startRawsend, State.request, State.runChecksum, State.beginInvocation, runningSum_eq, hchk]
    rfl
  · simp only [exec, execRawsend, portRefusal_eq_none.mpr hd, payloadOverlong_of_lt hm hlt, if_true]

/-! ## The threshold and the bound of ACC -/

theorem thresholdMet_iff (s : State) : thresholdMet s = true ↔ ∃ n, s.explen = some n ∧ n ≤ s.acc.length := by
  cases h : s.explen <;> simp [thresholdMet, h]

theorem thresholdMet_eq_false (s : State) :
    thresholdMet s = false ↔ ∀ n, s.explen = some n → s.acc.length < n := by
  cases h : s.explen <;> simp [thresholdMet, h]

theorem accOverfull_eq_false (s : State) :
    accOverfull s = false ↔ ∀ m, s.params.accMax = some m → s.acc.length ≤ m := by
  cases h : s.params.accMax <;> simp [accOverfull, h]

theorem accOverfull_of_lt {s : State} {m : Nat} (hm : s.params.accMax = some m) (hlt : m < s.acc.length) :
    accOverfull s = true := by
  simp [accOverfull, hm, hlt]

/-- A chunk is read as it is, and it is no reason to refuse the read. -/
theorem Chunk.read {s : State} {bs : List Byte} (h : Chunk s bs) :
    s.params.rxChunk ≠ 0 ∧ clipRead s.params.rxChunk (.data bs) = .data bs ∧
      leftOnLine s.params.rxChunk (.data bs) = [] := by
  obtain ⟨hne, hle⟩ := h
  have hpos : 0 < bs.length := List.length_pos_iff.mpr hne
  exact ⟨Nat.ne_zero_of_lt (Nat.lt_of_lt_of_le hpos hle), clipRead_data hne hle⟩

/-! ## A step by its request, in raw-frame mode -/

/-- In `Draining` a read of the collector is outstanding (43_rawsend R164). -/
def AsksChunk (s : State) : Prop :=
  s.fsm = .draining ∧ s.uop = some (readRequest s.params.rxChunk (rawTimeout s)) ∧ PortHeld s ∧ intrusion s = none

/-- `s` with its frame on the line and the collector about to take its first turn (43_rawsend R162). -/
def State.frameTaken (s : State) (bs : List Byte) : State := { s.unitTaken bs with fsm := .draining }

/-- `s` after a read of the collector (43_rawsend R164). -/
def State.chunkRead (s : State) : State :=
  { s with uop := none, reads := leftOnLine s.params.rxChunk (readAnswer s) ++ s.reads.tail,
           tick := tickAfter s.reads s.tick, lastrx := some (clipRead s.params.rxChunk (readAnswer s)),
           rx := s.rx ++ bytesOf (clipRead s.params.rxChunk (readAnswer s)),
           ret := .read (clipRead s.params.rxChunk (readAnswer s)),
           trace := s.trace ++
             [.evRead s.params.rxChunk (rawTimeout s) (clipRead s.params.rxChunk (readAnswer s))] }

/-- `s` after a read of the collector whose data is in ACC, about to take the next turn. -/
def State.collected (s : State) (bs : List Byte) : State := { s.chunkRead with acc := s.acc ++ bs }

theorem advance_draining {s : State} {r : ReadOutcome} (hf : s.fsm = .draining) (hr : s.ret = .read r) :
    advance s = afterDrainRead r s := by
  simp only [advance, hf, hr, reduceCtorEq, if_false]

/-- In raw-frame mode a hard error leaves OUTCOME as it was (10_state R36). -/
theorem errorOutcome_rawFrame {s : State} (e : ErrorValue) (hm : s.mode = .rawFrame) :
    errorOutcome s e = s.outcome := by
  simp only [errorOutcome, hm]

theorem AsksOpen.step_granted_rawFrame {s : State} (h : AsksOpen s) (hm : s.mode = .rawFrame)
    (ha : openAnswer s = .ok) :
    step s = .next { s.portGranted with fsm := .sending, uop := some (writeRequest s.txf) } :=
  (h.step_granted ha).trans (afterOpen_rawFrame rfl hm)

/-- After the frame the collector begins with a turn of its own. -/
theorem AsksWrite.step_taken_rawFrame {s : State} {bs : List Byte} (h : AsksWrite bs s) (hm : s.mode = .rawFrame)
    (ha : writeAnswer s = .ok) : step s = .next (drain (s.frameTaken bs)) :=
  (h.step_taken ha).trans (afterWrite_rawFrame rfl hm)

theorem AsksWrite.step_failed_rawFrame {s : State} {bs : List Byte} {c : Cause} {k : Nat} (h : AsksWrite bs s)
    (hm : s.mode = .rawFrame) (ha : writeAnswer s = .err c k) :
    step s = .next { s.unitFailed bs c k with
      fsm := .failure, error := some (.writeError s.port.id c), uop := some closeRequest } := by
  obtain ⟨hf, -, -, ho, -⟩ := id h
  calc step s = advance (writeBytes bs { s with uop := none }) := h.step_eq
    _ = advance (s.unitFailed bs c k) := congrArg advance (writeBytes_err (s := { s with uop := none }) bs ha)
    _ = .next ((s.unitFailed bs c k).takeError (.writeError s.port.id c)) := advance_sending hf nofun
    _ = _ := by
      rw [takeError_opened (s := s.unitFailed bs c k) ho, errorOutcome_rawFrame (s := s.unitFailed bs c k) _ hm]

theorem AsksChunk.step_eq {s : State} (h : AsksChunk s) (hcap : s.params.rxChunk ≠ 0) :
    step s = afterDrainRead (clipRead s.params.rxChunk (readAnswer s)) s.chunkRead := by
  obtain ⟨hf, hu, ho, hi⟩ := h
  calc step s = advance s.chunkRead := step_advance hu hi (decode_readRequest _ hcap) (execTRead_runs _ _ ho)
    _ = afterDrainRead (clipRead s.params.rxChunk (readAnswer s)) s.chunkRead := advance_draining hf rfl

/-- A read of no byte is refused by the decoder (41_transport R115). -/
theorem AsksChunk.capacity_ne_zero {s t : State} (h : AsksChunk s) (hstep : step s = .next t) :
    s.params.rxChunk ≠ 0 := by
  obtain ⟨-, hu, -⟩ := h
  intro hcap
  obtain ⟨u, i, m, hu', hd, -⟩ := step_request_cases (by simp [hu]) hstep
  cases hu.symm.trans hu'
  simp [decodeUop, readRequest, hcap] at hd

theorem AsksChunk.step_timedOut {s : State} (h : AsksChunk s) (hcap : s.params.rxChunk ≠ 0)
    (ha : clipRead s.params.rxChunk (readAnswer s) = .timedOut) :
    step s = .next { s.chunkRead with fsm := .success, uop := some closeRequest } := by
  obtain ⟨-, -, ho, -⟩ := id h
  rw [h.step_eq hcap, ha, afterDrainRead, finishDrain_eq (s := s.chunkRead) ho]

theorem AsksChunk.step_readError {s : State} {c : Cause} (h : AsksChunk s) (hcap : s.params.rxChunk ≠ 0)
    (hm : s.mode = .rawFrame) (ha : clipRead s.params.rxChunk (readAnswer s) = .readError c) :
    step s = .next { s.chunkRead with
      fsm := .failure, error := some (.readError s.port.id c), uop := some closeRequest } := by
  obtain ⟨-, -, ho, -⟩ := id h
  rw [h.step_eq hcap, ha, afterDrainRead, takeError_opened (s := s.chunkRead) ho,
    errorOutcome_rawFrame (s := s.chunkRead) _ hm]
  rfl

theorem AsksChunk.step_data {s : State} {bs : List Byte} (h : AsksChunk s) (hcap : s.params.rxChunk ≠ 0)
    (ha : clipRead s.params.rxChunk (readAnswer s) = .data bs) :
    step s = if accOverfull (s.collected bs) then .refused .accumulatorFull
      else .next (drain (s.collected bs)) := by
  rw [h.step_eq hcap, ha]
  rfl

/-! ## The transitions -/

/-- Settles O38: a written frame is followed by the collector's first turn, which tests the threshold. -/
theorem afterFrameWrite : Obligations.AfterFrameWrite := by
  intro s hf hm hu hne ho hi
  have h : AsksWrite s.txf s := ⟨hf, hu, hne, ho, hi⟩
  refine ⟨fun ha => ?_, fun c k ha => ⟨_, h.step_failed_rawFrame hm ha, rfl, rfl, rfl, rfl, rfl⟩⟩
  have hstep := h.step_taken_rawFrame hm ha
  cases hmet : thresholdMet s with
  | false =>
    rw [drain_reads (s := s.frameTaken s.txf) hmet] at hstep
    exact ⟨_, hstep, rfl, rfl, fun _ => ⟨rfl, rfl⟩, nofun⟩
  | true =>
    rw [drain_stops (s := s.frameTaken s.txf) hmet ho] at hstep
    exact ⟨_, hstep, rfl, rfl, nofun, fun _ => ⟨rfl, rfl⟩⟩

/-- Settles O39: the three outcomes of a read, and after data the test of the threshold. -/
theorem collectorStep : Obligations.CollectorStep := by
  intro s hf hm hcap hu ho hi
  have h : AsksChunk s := ⟨hf, hu, ho, hi⟩
  refine ⟨fun ha => ?_, fun bs hbs ha hfits => ?_, fun c ha => ?_⟩
  · have hclip : clipRead s.params.rxChunk (readAnswer s) = .timedOut := by obtain ha | ha := ha <;> simp [ha]
    exact ⟨_, h.step_timedOut hcap hclip, rfl, rfl, rfl⟩
  · obtain ⟨-, hclip, -⟩ := Chunk.read hbs
    have hroom : accOverfull (s.collected bs) = false := by
      simpa [accOverfull_eq_false, State.collected, State.chunkRead] using hfits
    have hstep := h.step_data hcap (by rw [ha, hclip])
    rw [hroom, if_neg Bool.false_ne_true] at hstep
    cases hmet : thresholdMet (s.collected bs) with
    | false =>
      have hnot := (thresholdMet_eq_false _).mp hmet
      rw [drain_reads hmet] at hstep
      refine ⟨_, hstep, rfl, fun ⟨n, hn, hle⟩ => ?_, fun _ => ⟨hf, hu.symm⟩⟩
      have hlt : (s.acc ++ bs).length < n := hnot n hn
      rw [List.length_append] at hlt
      omega
    | true =>
      obtain ⟨n, hn, hle⟩ := (thresholdMet_iff _).mp hmet
      rw [drain_stops hmet ho] at hstep
      refine ⟨_, hstep, rfl, fun _ => ⟨rfl, rfl⟩, fun hnot => ?_⟩
      have hlt := hnot n hn
      rw [← List.length_append] at hlt
      exact absurd hle (Nat.not_le.mpr hlt)
  · exact ⟨_, h.step_readError hcap hm (by rw [ha, clipRead_readError]), rfl, rfl, rfl⟩

/-- Settles O42: the chunk is read whole, and ACC with it is longer than ACC_MAX. -/
theorem accumulatorBound : Obligations.AccumulatorBound := by
  intro s m bs hf hm hu ho hi hmax hbs ha hlt
  have h : AsksChunk s := ⟨hf, hu, ho, hi⟩
  obtain ⟨hcap, hclip, -⟩ := Chunk.read hbs
  have hfull : accOverfull (s.collected bs) = true :=
    accOverfull_of_lt hmax (by simpa [State.collected] using hlt)
  rw [h.step_data hcap (by rw [ha, hclip]), hfull, if_pos rfl]

/-! ## No acknowledgment and no retry -/

/-- What the invariant leaves out in raw-frame mode: the states of an attempt, and the delay. -/
theorem EngineInv.rawFrame {s : State} (h : EngineInv s) (hm : s.mode = .rawFrame) :
    s.fsm ≠ .awaitingAck ∧ s.fsm ≠ .retry ∧ ∀ ms, s.uop ≠ some (delayRequest ms) := by
  obtain ⟨-, -, -, -, hidle, hsending, hawaiting, hretry, hdraining, hsuccess, hfailure⟩ := h
  have hack : s.fsm ≠ .awaitingAck := fun hf => by
    obtain ⟨-, -, ⟨hno, -⟩, -⟩ := hawaiting hf
    exact hno hm
  have hdelay : s.fsm ≠ .retry := fun hf => by
    obtain ⟨-, -, ⟨hno, -⟩, -⟩ := hretry hf
    exact hno hm
  refine ⟨hack, hdelay, fun ms hu => ?_⟩
  cases hf : s.fsm with
  | awaitingAck => exact hack hf
  | retry => exact hdelay hf
  | idle =>
    obtain ⟨hreq, -⟩ | ⟨hreq, -⟩ := hidle hf <;> cases hu.symm.trans hreq
  | sending =>
    obtain ⟨hreq, -⟩ := hsending hf
    cases hu.symm.trans hreq
  | draining =>
    obtain ⟨hreq, -⟩ := hdraining hf
    cases hu.symm.trans hreq
  | success => obtain ⟨hreq, -⟩ | ⟨hreq, -⟩ := hsuccess hf <;> cases hu.symm.trans hreq
  | failure => obtain ⟨hreq, -⟩ | ⟨hreq, -⟩ := hfailure hf <;> cases hu.symm.trans hreq

/-- No attempt is counted, and the only way to stay in `Sending` is to wait for the line. -/
def NoRetry (s t : State) : Prop :=
  t.attempt = s.attempt ∧ (s.fsm ≠ .idle → t.fsm = .sending → t.uop = s.uop ∧ t.tx = s.tx)

/-- A turn of the collector requests a read or ends, and counts no attempt. -/
theorem drain_registers {s : State} (ho : PortHeld s) (hf : s.fsm = .draining) :
    (drain s).attempt = s.attempt ∧ (drain s).fsm ≠ .sending := by
  cases hmet : thresholdMet s with
  | false =>
    rw [drain_reads hmet]
    exact ⟨rfl, fun h => nomatch hf.symm.trans h⟩
  | true =>
    rw [drain_stops hmet ho]
    exact ⟨rfl, nofun⟩

theorem AsksOpen.noRetry {s t : State} (h : AsksOpen s) (hm : s.mode = .rawFrame) (hstep : step s = .next t) :
    NoRetry s t := by
  obtain ⟨hf, -⟩ := id h
  cases ha : openAnswer s with
  | ok =>
    cases hstep.symm.trans (h.step_granted_rawFrame hm ha)
    exact ⟨rfl, fun hidle => absurd hf hidle⟩
  | err c =>
    cases hstep.symm.trans (h.step_denied ha)
    exact ⟨rfl, nofun⟩
  | hold =>
    cases hstep.symm.trans (h.step_held ha)
    exact ⟨rfl, fun hidle => absurd hf hidle⟩

theorem AsksWrite.noRetry {s t : State} {bs : List Byte} (h : AsksWrite bs s) (hm : s.mode = .rawFrame)
    (hstep : step s = .next t) : NoRetry s t := by
  obtain ⟨-, hu, -, ho, -⟩ := id h
  cases ha : writeAnswer s with
  | ok =>
    cases hstep.symm.trans (h.step_taken_rawFrame hm ha)
    obtain ⟨hattempt, hfsm⟩ := drain_registers (s := s.frameTaken bs) ho rfl
    exact ⟨hattempt, fun _ hs => absurd hs hfsm⟩
  | err c k =>
    cases hstep.symm.trans (h.step_failed_rawFrame hm ha)
    exact ⟨rfl, nofun⟩
  | hold =>
    cases hstep.symm.trans (h.step_held ha)
    exact ⟨rfl, fun _ _ => ⟨hu.symm, rfl⟩⟩

theorem AsksChunk.noRetry {s t : State} (h : AsksChunk s) (hm : s.mode = .rawFrame) (hstep : step s = .next t) :
    NoRetry s t := by
  obtain ⟨hf, -, ho, -⟩ := id h
  have hcap := h.capacity_ne_zero hstep
  cases ha : clipRead s.params.rxChunk (readAnswer s) with
  | timedOut =>
    cases hstep.symm.trans (h.step_timedOut hcap ha)
    exact ⟨rfl, nofun⟩
  | readError c =>
    cases hstep.symm.trans (h.step_readError hcap hm ha)
    exact ⟨rfl, nofun⟩
  | data bs =>
    rw [h.step_data hcap ha] at hstep
    split at hstep <;> cases hstep
    obtain ⟨hattempt, hfsm⟩ := drain_registers (s := s.collected bs) ho hf
    exact ⟨hattempt, fun _ hs => absurd hs hfsm⟩

theorem AsksClose.noRetry {s t : State} (h : AsksClose s) (hstep : step s = .next t) : NoRetry s t := by
  obtain ⟨hf, -⟩ := id h
  cases hstep.symm.trans h.step_eq
  refine ⟨rfl, fun _ (hs : s.fsm = .sending) => ?_⟩
  obtain hf | hf := hf <;> cases hs.symm.trans hf

/-- Nothing presented by the host stands in the way of a step that answers a next state. -/
theorem intrusion_eq_none_of_step {s t : State} (hu : s.uop ≠ none) (h : step s = .next t) : intrusion s = none := by
  obtain ⟨-, -, -, hi, -⟩ | ⟨_, _, _, hs, -⟩ | ⟨hs, -⟩ := step_cases h
  · exact hi
  · exact absurd hs hu
  · exact absurd hs hu

/-- Settles O58: the states and the request from the invariant of the state reached, the counter and the frame by the
request of the state left. -/
theorem rawModeHasNoRetry : Obligations.RawModeHasNoRetry := by
  intro s t hinv hu hm hstep
  have hi := intrusion_eq_none_of_step hu hstep
  obtain ⟨-, -, hmode, -⟩ := step_request_frame hu hstep
  obtain ⟨hack, hdelay, hnodelay⟩ := (invariantStep s t hinv hstep).rawFrame (hmode.trans hm)
  obtain ⟨hsack, hsdelay, -⟩ := hinv.rawFrame hm
  obtain ⟨-, -, -, -, hidle, hsending, -, -, hdraining, hsuccess, hfailure⟩ := hinv
  have hno : NoRetry s t := by
    cases hf : s.fsm with
    | awaitingAck => exact absurd hf hsack
    | retry => exact absurd hf hsdelay
    | idle =>
      obtain ⟨hnone, -⟩ | ⟨hreq, hc, hd, -⟩ := hidle hf
      · exact absurd hnone hu
      · exact AsksOpen.noRetry ⟨hf, hreq, hc, hd, hi⟩ hm hstep
    | sending =>
      obtain ⟨hreq, ho, hunit, -⟩ := hsending hf
      exact AsksWrite.noRetry ⟨hf, hreq, unitToSend_ne_nil hunit, ho, hi⟩ hm hstep
    | draining =>
      obtain ⟨hreq, ho, -⟩ := hdraining hf
      exact AsksChunk.noRetry ⟨hf, hreq, ho, hi⟩ hm hstep
    | success =>
      obtain ⟨hreq, ho⟩ := TerminalOk.closing (hsuccess hf) hu
      exact AsksClose.noRetry ⟨.inl hf, hreq, ho, hi⟩ hstep
    | failure =>
      obtain ⟨hreq, ho⟩ := TerminalOk.closing (hfailure hf) hu
      exact AsksClose.noRetry ⟨.inr hf, hreq, ho, hi⟩ hstep
  obtain ⟨hattempt, hframe⟩ := hno
  exact ⟨hack, hdelay, hattempt, hframe, hnodelay⟩

/-! ## The phases of a RAWSEND -/

/-- A RAWSEND is in progress, and its events so far are `es`. -/
def InRawsend (es : List Event) (s : State) : Prop :=
  s.host = [] ∧ s.mode = .rawFrame ∧ s.attempt = 0 ∧ s.outcome = none ∧ s.trace = es ∧ s.done = false

/-- The events of a granted open, of the frame's write and of the collector's reads. -/
def rawsendEvents (s : State) (w : IoResult) (rs : List ReadOutcome) : List Event :=
  [.evOpen s.port .ok, .evWrite s.txf w] ++ rs.map (.evRead s.params.rxChunk (rawTimeout s))

/-- The port is about to be opened, and nothing has happened. -/
def RawsendOpens (s : State) : Prop :=
  AsksOpen s ∧ InRawsend [] s ∧ s.txf ≠ [] ∧ s.acc = [] ∧ s.error = none

/-- The frame is being written. -/
def RawsendWrites (s : State) : Prop :=
  AsksWrite s.txf s ∧ InRawsend [.evOpen s.port .ok] s ∧ s.acc = [] ∧ s.error = none

/-- The frame is written, and the reads of the collector gave `rs`, every one of them some bytes. -/
def Collecting (rs : List ReadOutcome) (s : State) : Prop :=
  InRawsend (rawsendEvents s .ok rs) s ∧ s.acc = rs.flatMap bytesOf ∧ (∀ r ∈ rs, bytesOf r ≠ []) ∧ s.error = none

/-- The collector is about to test the threshold, which was not met before the last read (43_rawsend R164). -/
def RawsendTurn (rs : List ReadOutcome) (s : State) : Prop :=
  s.fsm = .draining ∧ PortHeld s ∧ intrusion s = none ∧ Collecting rs s ∧
    ∀ n, s.explen = some n → 1 ≤ n → (rs.dropLast.flatMap bytesOf).length < n

/-- The collector's next read is being made. -/
def RawsendReads (rs : List ReadOutcome) (s : State) : Prop :=
  AsksChunk s ∧ Collecting rs s ∧ thresholdMet s = false

/-- The write or the last read is made, and the port is being closed. -/
def RawsendCloses (w : IoResult) (rs : List ReadOutcome) (s : State) : Prop :=
  AsksClose s ∧ InRawsend (rawsendEvents s w rs) s

/-- The port is closed and the result delivered. -/
def RawsendOver (w : IoResult) (rs : List ReadOutcome) (s : State) : Prop :=
  AtRest s ∧ s.host = [] ∧ s.done = true ∧ s.mode = .rawFrame ∧ s.result = finalResult s ∧ s.attempt = 0 ∧
    s.outcome = none ∧ s.trace = rawsendEvents s w rs ++ [.evClose]

/-- The collector has ended without an error, and ACC is what its reads returned (43_rawsend R166). -/
def Drained (rs : List ReadOutcome) (s : State) : Prop :=
  s.fsm = .success ∧ s.error = none ∧ s.acc = rs.flatMap bytesOf

/-- What ended the collector: a time-out, or the threshold, not met before the last read (43_rawsend R164, R167). -/
def StopsFor (rs : List ReadOutcome) (s : State) : Prop :=
  rs.getLast? = some .timedOut ∨
    ∃ n, s.explen = some n ∧ n ≤ s.acc.length ∧ (1 ≤ n → (rs.dropLast.flatMap bytesOf).length < n)

/-- How a RAWSEND whose port was opened ends: no read follows a failed write, only the last read may have returned no
bytes, and on Success the collector was drained (43_rawsend R172). -/
def RawsendEnding (w : IoResult) (rs : List ReadOutcome) (s : State) : Prop :=
  (∀ c, w = .err c → rs = [] ∧ s.fsm = .failure) ∧ (∀ r ∈ rs.dropLast, bytesOf r ≠ []) ∧
    (s.fsm = .success → w = .ok ∧ s.acc = rs.flatMap bytesOf ∧ StopsFor rs s)

theorem rawsendEnding_drained {rs : List ReadOutcome} {s : State} (h : Drained rs s)
    (hrs : ∀ r ∈ rs.dropLast, bytesOf r ≠ []) (hstop : StopsFor rs s) : RawsendEnding .ok rs s := by
  obtain ⟨-, -, hacc⟩ := h
  exact ⟨nofun, hrs, fun _ => ⟨rfl, hacc, hstop⟩⟩

theorem rawsendEnding_failed {w : IoResult} {rs : List ReadOutcome} {s : State} (hf : s.fsm = .failure)
    (hw : ∀ c, w = .err c → rs = []) (hrs : ∀ r ∈ rs.dropLast, bytesOf r ≠ []) : RawsendEnding w rs s :=
  ⟨fun c hc => ⟨hw c hc, hf⟩, hrs, fun hs => nomatch hf.symm.trans hs⟩

theorem rawsendEvents_concat (s : State) (w : IoResult) (rs : List ReadOutcome) (r : ReadOutcome) :
    rawsendEvents s w (rs ++ [r]) = rawsendEvents s w rs ++ [.evRead s.params.rxChunk (rawTimeout s) r] := by
  simp [rawsendEvents]

theorem Collecting.trace_append {rs : List ReadOutcome} {s : State} (h : Collecting rs s) (r : ReadOutcome) :
    s.trace ++ [.evRead s.params.rxChunk (rawTimeout s) r] = rawsendEvents s .ok (rs ++ [r]) := by
  obtain ⟨⟨-, -, -, -, htrace, -⟩, -⟩ := h
  rw [htrace, rawsendEvents_concat]

/-! ## The steps between the phases of a RAWSEND -/

theorem RawsendOpens.granted {s : State} (h : RawsendOpens s) (ha : openAnswer s = .ok) :
    ∃ t, step s = .next t ∧ RawsendWrites t ∧ LineAt s.tx s.writes s.reads t := by
  obtain ⟨hasks, ⟨hh, hm, hattempt, hout, htrace, hdone⟩, htxf, hacc, herr⟩ := h
  obtain ⟨-, -, -, -, hi⟩ := id hasks
  have hevents : s.portGranted.trace = [.evOpen s.port .ok] := by rw [State.portGranted, htrace, List.nil_append]
  exact ⟨_, hasks.step_granted_rawFrame hm ha,
    ⟨⟨rfl, rfl, htxf, rfl, hi⟩, ⟨hh, hm, hattempt, hout, hevents, hdone⟩, hacc, herr⟩, rfl, rfl, rfl⟩

theorem RawsendOpens.denied {s : State} {c : Cause} (h : RawsendOpens s) (ha : openAnswer s = .err c) :
    ∃ t, step s = .next t ∧ OpenFailed c t := by
  obtain ⟨hasks, ⟨hh, -, hattempt, -, htrace, -⟩, -⟩ := h
  obtain ⟨-, -, hc, -⟩ := id hasks
  have hevents : (s.portDenied c).trace = [.evOpen s.port (.err c)] := by
    rw [State.portDenied, htrace, List.nil_append]
  exact ⟨_, hasks.step_denied ha, ⟨rfl, hc⟩, hh, rfl, rfl, hattempt, rfl, hevents⟩

theorem RawsendOpens.held {s : State} (h : RawsendOpens s) (ha : openAnswer s = .hold) :
    ∃ t, step s = .next t ∧ RawsendOpens t := by
  obtain ⟨hasks, hkept⟩ := h
  obtain ⟨hf, -, hrest⟩ := id hasks
  exact ⟨_, hasks.step_held ha, ⟨hf, rfl, hrest⟩, hkept⟩

theorem RawsendWrites.taken {s : State} (h : RawsendWrites s) (ha : writeAnswer s = .ok) :
    step s = .next (drain (s.frameTaken s.txf)) ∧ RawsendTurn [] (s.frameTaken s.txf) := by
  obtain ⟨hasks, ⟨hh, hm, hattempt, hout, htrace, hdone⟩, hacc, herr⟩ := h
  obtain ⟨-, -, -, ho, hi⟩ := id hasks
  have hevents : (s.frameTaken s.txf).trace = rawsendEvents s .ok [] := by
    simp [State.frameTaken, State.unitTaken, htrace, rawsendEvents]
  exact ⟨hasks.step_taken_rawFrame hm ha, rfl, ho, hi,
    ⟨⟨hh, hm, hattempt, hout, hevents, hdone⟩, hacc, nofun, herr⟩, fun _ _ hn => hn⟩

theorem RawsendWrites.failed {s : State} {c : Cause} {k : Nat} (h : RawsendWrites s)
    (ha : writeAnswer s = .err c k) :
    ∃ t, step s = .next t ∧ RawsendCloses (.err c) [] t ∧ RawsendEnding (.err c) [] t := by
  obtain ⟨hasks, ⟨hh, hm, hattempt, hout, htrace, hdone⟩, -⟩ := h
  obtain ⟨-, -, -, ho, hi⟩ := id hasks
  have hevents : (s.unitFailed s.txf c k).trace = rawsendEvents s (.err c) [] := by
    simp [State.unitFailed, htrace, rawsendEvents]
  exact ⟨_, hasks.step_failed_rawFrame hm ha,
    ⟨⟨.inr rfl, rfl, ho, hi⟩, hh, hm, hattempt, hout, hevents, hdone⟩,
    rawsendEnding_failed rfl (fun _ _ => rfl) nofun⟩

theorem RawsendWrites.held {s : State} (h : RawsendWrites s) (ha : writeAnswer s = .hold) :
    ∃ t, step s = .next t ∧ RawsendWrites t := by
  obtain ⟨hasks, hkept⟩ := h
  obtain ⟨hf, -, hrest⟩ := id hasks
  exact ⟨_, hasks.step_held ha, ⟨hf, rfl, hrest⟩, hkept⟩

/-- `s` with the collector's next read requested. -/
def State.nextChunk (s : State) : State := { s with uop := some (readRequest s.params.rxChunk (rawTimeout s)) }

/-- A turn of the collector with the threshold not met makes the next read. -/
theorem RawsendTurn.reads {rs : List ReadOutcome} {s : State} (h : RawsendTurn rs s) (hmet : thresholdMet s = false) :
    drain s = s.nextChunk ∧ RawsendReads rs s.nextChunk := by
  obtain ⟨hf, ho, hi, hcoll, -⟩ := h
  exact ⟨drain_reads hmet, ⟨hf, rfl, ho, hi⟩, hcoll, hmet⟩

/-- A turn of the collector with the threshold met ends it. -/
theorem RawsendTurn.stops {rs : List ReadOutcome} {s : State} (h : RawsendTurn rs s) (hmet : thresholdMet s = true) :
    RawsendCloses .ok rs (drain s) ∧ Drained rs (drain s) ∧ RawsendEnding .ok rs (drain s) ∧
      LineAt s.tx s.writes s.reads (drain s) := by
  obtain ⟨-, ho, hi, ⟨hin, hacc, hrs, herr⟩, hbefore⟩ := h
  obtain ⟨n, hn, hle⟩ := (thresholdMet_iff s).mp hmet
  rw [drain_stops hmet ho]
  exact ⟨⟨⟨.inl rfl, rfl, ho, hi⟩, hin⟩, ⟨rfl, herr, hacc⟩,
    rawsendEnding_drained ⟨rfl, herr, hacc⟩ (fun r hr => hrs r (List.mem_of_mem_dropLast hr))
      (.inr ⟨n, hn, hle, hbefore n hn⟩), rfl, rfl, rfl⟩

/-- A read that returned bytes, which ACC holds, leads to the next turn. -/
theorem RawsendReads.data {rs : List ReadOutcome} {s : State} {bs : List Byte} (h : RawsendReads rs s)
    (hcap : s.params.rxChunk ≠ 0) (ha : clipRead s.params.rxChunk (readAnswer s) = .data bs)
    (hroom : accOverfull (s.collected bs) = false) :
    step s = .next (drain (s.collected bs)) ∧ RawsendTurn (rs ++ [.data bs]) (s.collected bs) := by
  obtain ⟨hasks, hcoll, hmet⟩ := h
  obtain ⟨hf, -, ho, hi⟩ := id hasks
  obtain ⟨⟨hh, hm, hattempt, hout, -, hdone⟩, hacc, hrs, herr⟩ := id hcoll
  have hne : bs ≠ [] := List.length_pos_iff.mp (length_of_clipRead_eq_data ha).1
  have hstep := hasks.step_data hcap ha
  rw [hroom, if_neg Bool.false_ne_true] at hstep
  refine ⟨hstep, hf, ho, hi, ⟨⟨hh, hm, hattempt, hout, ?_, hdone⟩, ?_, ?_, herr⟩, fun n hn _ => ?_⟩
  · rw [State.collected, State.chunkRead, ha]
    exact hcoll.trace_append _
  · simp [State.collected, hacc, bytesOf]
  · simpa [or_imp, forall_and, bytesOf, hne] using hrs
  · rw [List.dropLast_concat, ← hacc]
    exact (thresholdMet_eq_false s).mp hmet n hn

/-- Whatever else ends the reads, the close is what follows. -/
theorem RawsendReads.closes {rs : List ReadOutcome} {s : State} {r : ReadOutcome} (h : RawsendReads rs s)
    (ha : clipRead s.params.rxChunk (readAnswer s) = r) {f : Fsm} (hf : f = .success ∨ f = .failure)
    (e : Option ErrorValue) :
    RawsendCloses .ok (rs ++ [r]) { s.chunkRead with fsm := f, error := e, uop := some closeRequest } := by
  subst ha
  obtain ⟨⟨-, -, ho, hi⟩, hcoll, -⟩ := h
  obtain ⟨⟨hh, hm, hattempt, hout, -, hdone⟩, -⟩ := id hcoll
  exact ⟨⟨hf, rfl, ho, hi⟩, hh, hm, hattempt, hout, hcoll.trace_append _, hdone⟩

theorem RawsendReads.timedOut {rs : List ReadOutcome} {s : State} (h : RawsendReads rs s)
    (hcap : s.params.rxChunk ≠ 0) (ha : clipRead s.params.rxChunk (readAnswer s) = .timedOut) :
    ∃ t, step s = .next t ∧ RawsendCloses .ok (rs ++ [.timedOut]) t ∧ Drained (rs ++ [.timedOut]) t ∧
      RawsendEnding .ok (rs ++ [.timedOut]) t ∧
      LineAt s.tx s.writes (leftOnLine s.params.rxChunk (readAnswer s) ++ s.reads.tail) t := by
  obtain ⟨hasks, ⟨-, hacc, hrs, herr⟩, -⟩ := id h
  have hdrained : Drained (rs ++ [.timedOut]) { s.chunkRead with fsm := .success, uop := some closeRequest } :=
    ⟨rfl, herr, by simp [State.chunkRead, bytesOf, hacc]⟩
  refine ⟨_, hasks.step_timedOut hcap ha, h.closes ha (.inl rfl) s.error, hdrained,
    rawsendEnding_drained hdrained ?_ (.inl List.getLast?_concat), rfl, rfl, rfl⟩
  rwa [List.dropLast_concat]

theorem RawsendReads.failed {rs : List ReadOutcome} {s : State} {c : Cause} (h : RawsendReads rs s)
    (hcap : s.params.rxChunk ≠ 0) (ha : clipRead s.params.rxChunk (readAnswer s) = .readError c) :
    ∃ t, step s = .next t ∧ RawsendCloses .ok (rs ++ [.readError c]) t ∧
      RawsendEnding .ok (rs ++ [.readError c]) t := by
  obtain ⟨hasks, ⟨⟨-, hm, -⟩, -, hrs, -⟩, -⟩ := id h
  refine ⟨_, hasks.step_readError hcap hm ha, h.closes ha (.inr rfl) _, rawsendEnding_failed rfl nofun ?_⟩
  rwa [List.dropLast_concat]

theorem RawsendCloses.closed {w : IoResult} {rs : List ReadOutcome} {s : State} (h : RawsendCloses w rs s) :
    ∃ t, step s = .next t ∧ RawsendOver w rs t ∧ LineAt s.tx s.writes s.reads t ∧
      t.fsm = s.fsm ∧ t.acc = s.acc ∧ t.explen = s.explen ∧ t.error = s.error := by
  obtain ⟨hasks, hh, hm, hattempt, hout, htrace, -⟩ := h
  have hevents : s.portClosed.trace = rawsendEvents s w rs ++ [.evClose] := by rw [State.portClosed, htrace]
  exact ⟨_, hasks.step_eq, ⟨⟨rfl, rfl⟩, hh, rfl, hm, rfl, hattempt, hout, hevents⟩, ⟨rfl, rfl, rfl⟩,
    rfl, rfl, rfl, rfl⟩

/-! ## The operands of a RAWSEND -/

/-- An invocation of RAWSEND with its operands, and TXF the payload's frame. -/
def RunsRawsend (p : Params) (port : PortConfig) (payload : List Byte) (rto explen : Option Nat) (s : State) : Prop :=
  s.params = p ∧ s.port = port ∧ s.txf = buildFrame payload ∧ s.rto = rto ∧ s.explen = explen

theorem rawTimeout_eq (s : State) : rawTimeout s = rawsendTimeout s.port s.rto := by
  cases h : s.rto <;> simp [rawTimeout, rawsendTimeout, h]

theorem RunsRawsend.events {p : Params} {port : PortConfig} {payload : List Byte} {rto explen : Option Nat} {s : State}
    (h : RunsRawsend p port payload rto explen s) (w : IoResult) (rs : List ReadOutcome) :
    rawsendEvents s w rs = [.evOpen port .ok, .evWrite (buildFrame payload) w] ++
      rs.map (.evRead p.rxChunk (rawsendTimeout port rto)) := by
  obtain ⟨rfl, rfl, htxf, rfl, -⟩ := h
  rw [rawsendEvents, rawTimeout_eq, htxf]

/-- With nothing presented by the host a run keeps the operands. -/
theorem RunsRawsend.of_run {p : Params} {port : PortConfig} {payload : List Byte} {rto explen : Option Nat}
    {k : Nat} {s u : State} (h : RunsRawsend p port payload rto explen s) (hh : s.host = [])
    (hrun : run k s = .next u) : RunsRawsend p port payload rto explen u := by
  refine (run_invariant (P := fun v => v.host = [] ∧ RunsRawsend p port payload rto explen v) ?_ ⟨hh, h⟩ hrun).2
  rintro v w ⟨hvh, hv⟩ hstep
  by_cases hu : v.uop = none
  · cases (step_atRest hu hvh).symm.trans hstep
    exact ⟨hvh, hv⟩
  · obtain ⟨⟨kparams, khost⟩, ⟨-, -, -, -, -, krto, kexplen, kport⟩, -, -, ktxf, -⟩ := step_request_frame hu hstep
    obtain ⟨hparams, hport, htxf, hrto, hexplen⟩ := hv
    exact ⟨khost.trans hvh, kparams.trans hparams, kport.trans hport, ktxf.trans htxf, krto.trans hrto,
      kexplen.trans hexplen⟩

/-- At rest RAWSEND starts with the open of its port. -/
theorem startRawsend_opens {port : PortConfig} {payload : List Byte} (rto explen : Option Nat) {s : State}
    (hd : port.dataBits = .eight) (hc : s.handle = .closed) (hh : s.host = []) :
    RawsendOpens (startRawsend port payload rto explen s) ∧
      RunsRawsend s.params port payload rto explen (startRawsend port payload rto explen s) := by
  have hi : intrusion (startRawsend port payload rto explen s) = none := by
    rw [intrusion, show (startRawsend port payload rto explen s).host = [] from hh, intrusionOn_nil]
  exact ⟨⟨⟨rfl, rfl, hc, hd, hi⟩, ⟨hh, rfl, rfl, rfl, rfl, rfl⟩, buildFrame_ne_nil payload, rfl, rfl⟩,
    rfl, rfl, rfl, rfl, rfl⟩

/-! ## Runs of a RAWSEND that the line's answers fix -/

theorem flatMap_bytesOf_data (chunks : List (List Byte)) :
    (chunks.map ReadOutcome.data).flatMap bytesOf = chunks.flatten := by
  rw [List.flatMap_map, List.flatten_eq_flatMap]
  rfl

/-- One chunk, read whole from the line. -/
theorem RawsendReads.collects {past : List ReadOutcome} {s : State} {bs : List Byte} {rest : List ReadOutcome}
    (h : RawsendReads past s) (hbs : Chunk s bs) (hroom : accOverfull (s.collected bs) = false)
    (hreads : s.reads = .data bs :: rest) :
    step s = .next (drain (s.collected bs)) ∧ RawsendTurn (past ++ [.data bs]) (s.collected bs) ∧
      (s.collected bs).reads = rest := by
  have hans := readAnswer_cons hreads
  obtain ⟨hcap, hclip, hleft⟩ := Chunk.read hbs
  obtain ⟨hstep, hturn⟩ := h.data hcap (by rw [hans, hclip]) hroom
  refine ⟨hstep, hturn, ?_⟩
  rw [State.collected, State.chunkRead, hans, hleft, hreads]
  rfl

/-- Chunks that ACC can hold, before each of which the threshold is not met, are collected one after the other. -/
theorem RawsendTurn.run_collects {rest : List ReadOutcome} (chunks : List (List Byte)) {past : List ReadOutcome}
    {s : State} (h : RawsendTurn past s) (hchunks : ∀ bs ∈ chunks, Chunk s bs)
    (hroom : ∀ m, s.params.accMax = some m → s.acc.length + chunks.flatten.length ≤ m)
    (hunmet : chunks ≠ [] → ∀ n, s.explen = some n → s.acc.length + chunks.dropLast.flatten.length < n)
    (hreads : s.reads = chunks.map .data ++ rest) :
    ∃ t, run chunks.length (drain s) = .next (drain t) ∧ RawsendTurn (past ++ chunks.map .data) t ∧
      t.params = s.params ∧ t.explen = s.explen ∧ LineAt s.tx s.writes rest t := by
  induction chunks generalizing past s with
  | nil => exact ⟨s, rfl, by rwa [List.map_nil, List.append_nil], rfl, rfl, rfl, rfl, hreads⟩
  | cons bs chunks ih =>
    have hmet : thresholdMet s = false := (thresholdMet_eq_false s).mpr fun n hn =>
      Nat.lt_of_le_of_lt (Nat.le_add_right _ _) (hunmet (List.cons_ne_nil _ _) n hn)
    obtain ⟨hdrain, hread⟩ := h.reads hmet
    have hlen : (s.acc ++ bs).length + chunks.flatten.length = s.acc.length + (bs :: chunks).flatten.length := by
      rw [List.length_append, List.flatten_cons, List.length_append, Nat.add_assoc]
    have hfull : accOverfull (s.nextChunk.collected bs) = false := (accOverfull_eq_false _).mpr fun m hm =>
      Nat.le_trans (Nat.le_add_right _ _) (hlen ▸ hroom m hm)
    obtain ⟨hstep, hturn, hrest⟩ := hread.collects (hchunks bs List.mem_cons_self) hfull hreads
    have hunmet' : chunks ≠ [] → ∀ n, s.explen = some n →
        (s.acc ++ bs).length + chunks.dropLast.flatten.length < n := fun hne n hn => by
      have hlt := hunmet (List.cons_ne_nil _ _) n hn
      rwa [List.dropLast_cons_of_ne_nil hne, List.flatten_cons, List.length_append, ← Nat.add_assoc,
        ← List.length_append] at hlt
    obtain ⟨t, hrun, ht, hparams, hexplen, hline⟩ := ih hturn (fun b hb => hchunks b (List.mem_cons_of_mem bs hb))
      (fun m hm => hlen ▸ hroom m hm) hunmet' hrest
    refine ⟨t, ?_, by simpa using ht, hparams, hexplen, hline⟩
    rw [hdrain, List.length_cons, Nat.add_comm]
    exact run_append (run_one hstep) hrun

/-- A RAWSEND whose open and write are answered Ok comes to the turn after its last chunk. -/
theorem rawsend_run_toLastTurn {s : State} {port : PortConfig} {payload : List Byte} (rto : Option Nat)
    {explen : Option Nat} {chunks : List (List Byte)} {rest : List ReadOutcome} {os : List OpenAnswer}
    {ws : List WriteAnswer} (hd : port.dataBits = .eight) (hc : s.handle = .closed) (hh : s.host = [])
    (hfits : Fits s payload.length chunks.flatten.length) (hchunks : ∀ bs ∈ chunks, Chunk s bs)
    (hunmet : chunks ≠ [] → ∀ n, explen = some n → chunks.dropLast.flatten.length < n)
    (hopens : s.opens = .ok :: os) (hwrites : s.writes = .ok :: ws) (hreads : s.reads = chunks.map .data ++ rest) :
    ∃ t v, exec (.rawsend port payload rto explen) s = .next t ∧ t.host = [] ∧
      RunsRawsend s.params port payload rto explen t ∧ run (2 + chunks.length) t = .next (drain v) ∧
      RawsendTurn (chunks.map .data) v ∧ v.params = s.params ∧ v.explen = explen ∧
      LineAt (s.tx ++ buildFrame payload) ws rest v := by
  obtain ⟨hsend, hreceive⟩ := hfits
  obtain ⟨hopening, hruns⟩ := startRawsend_opens (payload := payload) rto explen hd hc hh
  obtain ⟨u, hopen, hwriting, hux, huw, hur⟩ := hopening.granted (openAnswer_cons hopens)
  obtain ⟨huparams, -, hutxf, -, huexplen⟩ := hruns.of_run hh (run_one hopen)
  obtain ⟨-, -, huacc, -⟩ := id hwriting
  obtain ⟨hwrite, hturn⟩ := hwriting.taken (writeAnswer_cons (huw.trans hwrites))
  have hacc : (u.frameTaken u.txf).acc.length = 0 := congrArg List.length huacc
  obtain ⟨v, hrun, hlast, hparams, hexplen, hvx, hvw, hvr⟩ := hturn.run_collects chunks
    (fun bs hbs => show bs ≠ [] ∧ bs.length ≤ u.params.rxChunk from huparams ▸ hchunks bs hbs)
    (fun m hm => by rw [hacc, Nat.zero_add]; exact hreceive m (huparams ▸ hm))
    (fun hne n hn => by rw [hacc, Nat.zero_add]; exact hunmet hne n (huexplen ▸ hn)) (hur.trans hreads)
  refine ⟨_, v, execRawsend_runs rto explen (portRefusal_eq_none.mpr hd) ((payloadOverlong_eq_false s _).mpr hsend),
    hh, hruns, run_append (run_append (run_one hopen) (run_one hwrite)) hrun, hlast, hparams.trans huparams,
    hexplen.trans huexplen, ?_, ?_, hvr⟩
  · rw [hvx, ← hutxf]
    exact congrArg (· ++ u.txf) hux
  · rw [hvw]
    exact congrArg List.tail (huw.trans hwrites)

/-- The close of a RAWSEND that was drained, with the collected bytes as the result. -/
theorem RawsendCloses.run_ends {p : Params} {port : PortConfig} {payload : List Byte} {rto explen : Option Nat}
    {rs : List ReadOutcome} {s : State} (h : RawsendCloses .ok rs s) (hdrained : Drained rs s)
    (hruns : RunsRawsend p port payload rto explen s) :
    ∃ u, run 1 s = .next u ∧ u.fsm = .success ∧ u.done = true ∧ AtRest u ∧ u.attempt = 0 ∧ u.outcome = none ∧
      u.acc = rs.flatMap bytesOf ∧ u.result = .bytes (decodeResponse (rs.flatMap bytesOf)) ∧
      LineAt s.tx s.writes s.reads u ∧
      u.trace = [.evOpen port .ok, .evWrite (buildFrame payload) .ok] ++
        rs.map (.evRead p.rxChunk (rawsendTimeout port rto)) ++ [.evClose] := by
  obtain ⟨hf, herr, hacc⟩ := hdrained
  obtain ⟨-, hh, -⟩ := id h
  obtain ⟨u, hstep, ⟨hrest, -, hdone, hm, hresult, hattempt, hout, htrace⟩, hline, huf, huacc, -, huerr⟩ := h.closed
  have hbytes : u.acc = rs.flatMap bytesOf := huacc.trans hacc
  refine ⟨u, run_one hstep, huf.trans hf, hdone, hrest, hattempt, hout, hbytes, ?_, hline, ?_⟩
  · rw [hresult, finalResult_rawFrame (huerr.trans herr) hm, hbytes]
  · rw [htrace, (hruns.of_run hh (run_one hstep)).events]

/-- Settles O47: the turn after the last chunk makes one more read, whose time-out ends the collector. -/
theorem rawsendDrains : Obligations.RawsendDrains := by
  intro s port payload rto chunks rest os ws hd hc hh hfits hcap hchunks hopens hwrites hreads
  obtain ⟨t, v, hexec, hth, hruns, hrun, hturn, hparams, hexplen, hvx, hvw, hvr⟩ :=
    rawsend_run_toLastTurn rto (explen := none) hd hc hh hfits hchunks (fun _ => nofun) hopens hwrites hreads
  obtain ⟨hdrain, hread⟩ := hturn.reads ((thresholdMet_eq_false v).mpr (by simp [hexplen]))
  rw [hdrain] at hrun
  have hans : readAnswer v.nextChunk = .timedOut := readAnswer_cons hvr
  obtain ⟨w, hstep, hcloses, hdrained, -, hwx, -, hwr⟩ :=
    hread.timedOut (hparams ▸ Nat.one_le_iff_ne_zero.mp hcap) (congrArg (clipRead _) hans)
  have hrun' := run_append hrun (run_one hstep)
  obtain ⟨u, hclose, hf, hdone, hrest, hattempt, hout, hacc, hresult, ⟨hux, -, hur⟩, htrace⟩ :=
    hcloses.run_ends hdrained (hruns.of_run hth hrun')
  have hbytes : (chunks.map ReadOutcome.data ++ [ReadOutcome.timedOut]).flatMap bytesOf = chunks.flatten := by
    rw [List.flatMap_append, flatMap_bytesOf_data]
    exact List.append_nil _
  rw [hbytes] at hacc hresult
  refine ⟨t, u, hexec, ?_, hf, hdone, hrest, hattempt, hout, hacc, hresult, ?_, ?_, ?_⟩
  · rw [show chunks.length + 4 = 2 + chunks.length + 1 + 1 by omega]
    exact run_append hrun' hclose
  · rw [hux, hwx, List.append_assoc]
    exact hvx
  · rw [hur, hwr, hans]
    exact congrArg List.tail hvr
  · rw [htrace]
    simp

/-- Settles O48: the turn after the last chunk is the first one at which the threshold is met. -/
theorem rawsendThreshold : Obligations.RawsendThreshold := by
  intro s port payload rto n chunks rest os ws hd hc hh hfits hchunks hle hlt hopens hwrites hreads
  have hunmet : chunks ≠ [] → ∀ m, some n = some m → chunks.dropLast.flatten.length < m := fun hne m hm =>
    Option.some.inj hm ▸ hlt hne
  obtain ⟨t, v, hexec, hth, hruns, hrun, hturn, -, hexplen, -, -, hvr⟩ :=
    rawsend_run_toLastTurn rto hd hc hh hfits hchunks hunmet hopens hwrites hreads
  obtain ⟨-, -, -, ⟨-, hvacc, -⟩, -⟩ := id hturn
  rw [flatMap_bytesOf_data] at hvacc
  obtain ⟨hcloses, hdrained, -, -, -, hwr⟩ := hturn.stops ((thresholdMet_iff v).mpr ⟨n, hexplen, hvacc ▸ hle⟩)
  obtain ⟨u, hclose, hf, hdone, hrest, -, -, hacc, hresult, ⟨-, -, hur⟩, htrace⟩ :=
    hcloses.run_ends hdrained (hruns.of_run hth hrun)
  rw [flatMap_bytesOf_data] at hacc hresult
  refine ⟨t, u, hexec, ?_, hf, hdone, hrest, hacc, hresult, hur.trans (hwr.trans hvr), ?_⟩
  · rw [show chunks.length + 3 = 2 + chunks.length + 1 by omega]
    exact run_append hrun hclose
  · rw [htrace, List.map_map]
    rfl

/-! ## The trace of every run of a RAWSEND -/

/-- The phases of a RAWSEND, the last ones with how it ends. -/
inductive RawsendPhase : State → Prop where
  | opens {s : State} : RawsendOpens s → RawsendPhase s
  | writes {s : State} : RawsendWrites s → RawsendPhase s
  | reads {rs : List ReadOutcome} {s : State} : RawsendReads rs s → RawsendPhase s
  | closes {w : IoResult} {rs : List ReadOutcome} {s : State} :
      RawsendCloses w rs s → RawsendEnding w rs s → RawsendPhase s
  | ended {w : IoResult} {rs : List ReadOutcome} {s : State} :
      RawsendOver w rs s → RawsendEnding w rs s → RawsendPhase s
  | failed {c : Cause} {s : State} : OpenFailed c s → RawsendPhase s

theorem RawsendTurn.phase {rs : List ReadOutcome} {s : State} (h : RawsendTurn rs s) : RawsendPhase (drain s) := by
  cases hmet : thresholdMet s with
  | false =>
    obtain ⟨hdrain, hread⟩ := h.reads hmet
    exact hdrain ▸ .reads hread
  | true =>
    obtain ⟨hcloses, -, hends, -⟩ := h.stops hmet
    exact .closes hcloses hends

theorem RawsendOpens.progress {s : State} (h : RawsendOpens s) : ∃ t, step s = .next t ∧ RawsendPhase t := by
  cases ha : openAnswer s with
  | ok =>
    obtain ⟨t, hstep, ht, -⟩ := h.granted ha
    exact ⟨t, hstep, .writes ht⟩
  | err c =>
    obtain ⟨t, hstep, ht⟩ := h.denied ha
    exact ⟨t, hstep, .failed ht⟩
  | hold =>
    obtain ⟨t, hstep, ht⟩ := h.held ha
    exact ⟨t, hstep, .opens ht⟩

theorem RawsendWrites.progress {s : State} (h : RawsendWrites s) : ∃ t, step s = .next t ∧ RawsendPhase t := by
  cases ha : writeAnswer s with
  | ok =>
    obtain ⟨hstep, hturn⟩ := h.taken ha
    exact ⟨_, hstep, hturn.phase⟩
  | err c k =>
    obtain ⟨t, hstep, hcloses, hends⟩ := h.failed ha
    exact ⟨t, hstep, .closes hcloses hends⟩
  | hold =>
    obtain ⟨t, hstep, ht⟩ := h.held ha
    exact ⟨t, hstep, .writes ht⟩

/-- A read of the collector that is not refused, by the decoder or for a full ACC, leads to a phase. -/
theorem RawsendReads.phase_of_step {rs : List ReadOutcome} {s t : State} (h : RawsendReads rs s)
    (hstep : step s = .next t) : RawsendPhase t := by
  obtain ⟨hasks, -⟩ := id h
  have hcap := hasks.capacity_ne_zero hstep
  cases ha : clipRead s.params.rxChunk (readAnswer s) with
  | timedOut =>
    obtain ⟨v, hv, hcloses, -, hends, -⟩ := h.timedOut hcap ha
    cases hv.symm.trans hstep
    exact .closes hcloses hends
  | readError c =>
    obtain ⟨v, hv, hcloses, hends⟩ := h.failed hcap ha
    cases hv.symm.trans hstep
    exact .closes hcloses hends
  | data bs =>
    cases hroom : accOverfull (s.collected bs) with
    | true =>
      rw [hasks.step_data hcap ha, hroom] at hstep
      cases hstep
    | false =>
      obtain ⟨hv, hturn⟩ := h.data hcap ha hroom
      cases hv.symm.trans hstep
      exact hturn.phase

/-- The close keeps how the RAWSEND ends. -/
theorem RawsendCloses.progress {w : IoResult} {rs : List ReadOutcome} {s : State} (h : RawsendCloses w rs s)
    (hends : RawsendEnding w rs s) : ∃ t, step s = .next t ∧ RawsendPhase t := by
  obtain ⟨t, hstep, hover, -, hf, hacc, hexplen, -⟩ := h.closed
  refine ⟨t, hstep, .ended hover ?_⟩
  simpa only [RawsendEnding, StopsFor, hf, hacc, hexplen] using hends

/-- Every step of a RAWSEND leads from a phase to a phase. -/
theorem RawsendPhase.of_step {s t : State} (h : RawsendPhase s) (hstep : step s = .next t) : RawsendPhase t := by
  have next : (∃ v, step s = .next v ∧ RawsendPhase v) → RawsendPhase t := by
    rintro ⟨v, hv, hphase⟩
    cases hv.symm.trans hstep
    exact hphase
  apply next
  cases h with
  | opens h => exact h.progress
  | writes h => exact h.progress
  | reads h => exact ⟨t, hstep, h.phase_of_step hstep⟩
  | closes h hends => exact h.progress hends
  | ended h hends =>
    obtain ⟨⟨hu, -⟩, hh, -⟩ := id h
    exact ⟨s, step_atRest hu hh, .ended h hends⟩
  | failed h =>
    obtain ⟨⟨hu, -⟩, hh, -⟩ := id h
    exact ⟨s, step_atRest hu hh, .failed h⟩

/-- A phase in which the result is delivered is one of the two last ones. -/
theorem RawsendPhase.of_done {s : State} (h : RawsendPhase s) (hd : s.done = true) :
    (∃ w rs, RawsendOver w rs s ∧ RawsendEnding w rs s) ∨ ∃ c, OpenFailed c s := by
  have busy : ∀ {es : List Event}, ¬InRawsend es s := fun ⟨_, _, _, _, _, hf⟩ => by simp [hf] at hd
  cases h with
  | opens h =>
    obtain ⟨-, hin, -⟩ := h
    exact (busy hin).elim
  | writes h =>
    obtain ⟨-, hin, -⟩ := h
    exact (busy hin).elim
  | reads h =>
    obtain ⟨-, ⟨hin, -⟩, -⟩ := h
    exact (busy hin).elim
  | closes h =>
    obtain ⟨-, hin⟩ := h
    exact (busy hin).elim
  | ended h hends => exact .inl ⟨_, _, h, hends⟩
  | failed h => exact .inr ⟨_, h⟩

/-- Settles O49: a finished run is in one of the two last phases, and it has kept the operands of its start. -/
theorem rawsendTrace : Obligations.RawsendTrace := by
  intro s t u port payload rto explen k hc hh hexec hrun hdone
  obtain ⟨hd, -, rfl⟩ := execRawsend_cases hexec
  obtain ⟨hopening, hstart⟩ := startRawsend_opens (payload := payload) rto explen hd hc hh
  have hruns := hstart.of_run hh hrun
  obtain ⟨-, hport, -, -, hexplen⟩ := id hruns
  have hphase : RawsendPhase u := run_invariant (fun _ _ h => h.of_step) (.opens hopening) hrun
  obtain ⟨w, rs, ⟨-, -, -, -, -, -, -, htrace⟩, hfailed, hrs, hsuccess⟩ | ⟨c, -, -, -, hf, -, -, htrace⟩ :=
    hphase.of_done hdone
  · rw [hruns.events] at htrace
    rw [StopsFor, hexplen] at hsuccess
    exact .inr ⟨w, rs, htrace, hfailed, hrs, hsuccess⟩
  · exact .inl ⟨c, hport ▸ htrace, hf⟩

end Sys2Proof.Machine
end

section
/-! The family of 44_bridge: the refusal of BRIDGE, and the contract of the excluded bridge. -/

namespace Sys2Proof.Machine

/-- Settles O28: the arm of BRIDGE answers the refusal without looking at the state. -/
theorem bridgeRefused : Obligations.BridgeRefused :=
  fun _ _ => rfl

/-! ## The command text (44_bridge R177) -/

theorem bridgeTrim_eq_rdropWhile (t : Text) :
    bridgeTrim t = (t.dropWhile Char.isWhitespace).rdropWhile Char.isWhitespace := rfl

/-- What the trim takes off a text is the white space before it and the white space after it. -/
theorem takeWhile_append_bridgeTrim_append_rtakeWhile (t : Text) :
    t.takeWhile Char.isWhitespace ++ bridgeTrim t ++
      (t.dropWhile Char.isWhitespace).rtakeWhile Char.isWhitespace = t := by
  rw [bridgeTrim_eq_rdropWhile, List.append_assoc, List.rdropWhile_append_rtakeWhile,
    List.takeWhile_append_dropWhile]

/-- The trimmed text is a prefix of the text without its front white space, so it begins with the same character. -/
theorem isWhitespace_of_head?_bridgeTrim {t : Text} {c : Char} (h : (bridgeTrim t).head? = some c) :
    c.isWhitespace = false := by
  have hprefix : bridgeTrim t <+: t.dropWhile Char.isWhitespace := List.rdropWhile_prefix _ _
  obtain ⟨back, hback⟩ := hprefix
  have hhead : (t.dropWhile Char.isWhitespace).head? = some c := by
    rw [← hback, List.head?_append, h, Option.some_or]
  simpa only [hhead] using t.head?_dropWhile_not Char.isWhitespace

theorem isWhitespace_of_getLast?_bridgeTrim {t : Text} {c : Char} (h : (bridgeTrim t).getLast? = some c) :
    c.isWhitespace = false := by
  obtain ⟨hne, rfl⟩ := List.mem_getLast?_eq_getLast h
  exact Bool.eq_false_iff.mpr (List.rdropWhile_last_not Char.isWhitespace _ hne)

/-! ## The reply (44_bridge R178, R180) -/

theorem bridgeJoin_cons (l : Text) {b : List Text} (hb : b ≠ []) :
    bridgeJoin (l :: b) = l ++ Config.newline ++ bridgeJoin b := by
  cases b with
  | nil => exact absurd rfl hb
  | cons m ls => rfl

/-- Two replies joined after one another have one newline between them. -/
theorem bridgeJoin_append {a b : List Text} (ha : a ≠ []) (hb : b ≠ []) :
    bridgeJoin (a ++ b) = bridgeJoin a ++ Config.newline ++ bridgeJoin b := by
  induction a with
  | nil => exact absurd rfl ha
  | cons l ls ih =>
    cases ls with
    | nil => exact bridgeJoin_cons l hb
    | cons m ms =>
      have hrest := ih (List.cons_ne_nil m ms)
      rw [List.cons_append, bridgeJoin_cons l (by simp), hrest, bridgeJoin_cons l (List.cons_ne_nil m ms)]
      simp only [List.append_assoc]

theorem bridgeLines_eq_filter_ne_nil (lines : List Text) :
    bridgeLines lines = lines.filter (fun l => decide (l ≠ [])) := by
  unfold bridgeLines
  congr
  funext l
  cases l <;> rfl

theorem bridgeCollect_of_ne_nil {lines : List Text} (stop : BridgeStop) (h : lines ≠ []) :
    bridgeCollect lines stop = .reply (bridgeLines lines) := by
  cases lines with
  | nil => exact absurd rfl h
  | cons l ls => rfl

/-- Settles O60: the trim's own split of the text, the join over an append, and one case of `bridgeSend` for each
way a call can end. -/
theorem bridgeContract : Obligations.BridgeContract := by
  refine ⟨?trim, ⟨rfl, fun _ => rfl, fun _ _ => bridgeJoin_append⟩, fun _ _ _ => rfl, fun _ _ _ => rfl, ?silent,
    fun _ => rfl, ?reply⟩
  case trim =>
    intro t
    refine ⟨_, _, bridgeTrim t, rfl, (takeWhile_append_bridgeTrim_append_rtakeWhile t).symm, ?_,
      fun _ => isWhitespace_of_head?_bridgeTrim, fun _ => isWhitespace_of_getLast?_bridgeTrim⟩
    intro c hc
    obtain hfront | hback := List.mem_append.mp hc
    · exact List.mem_takeWhile_imp hfront
    · exact List.mem_rtakeWhile_imp hback
  case silent =>
    rintro stop (rfl | rfl) <;> rfl
  case reply =>
    intro lines stop hlines
    calc bridgeSend { connected := true, writeFailure := none, lines := lines, stop := stop }
        = bridgeCollect lines stop := rfl
      _ = .reply (bridgeLines lines) := bridgeCollect_of_ne_nil stop hlines
      _ = .reply (lines.filter (fun l => decide (l ≠ []))) := by rw [bridgeLines_eq_filter_ne_nil]

end Sys2Proof.Machine
end

section
/-! The family of 60_exceptions: the refusals of a step, and what the host may do while an invocation is in
progress. -/

namespace Sys2Proof.Machine

/-! ## A refused fetch -/

theorem step_of_fetch_refuses {s : State} {r : Refusal} (h : fetch s = .refuses r) : step s = .refused r := by
  rw [step, h]

/-- An invocation presented with no request outstanding is fetched, whether its caller waits or not. -/
theorem fetch_presented {s : State} {r : HostRegs} {rest : List HostEvent} (hu : s.uop = none)
    (hh : s.host = .invoke r :: rest ∨ s.host = .overlap r :: rest) : fetch s = fetchInvocation r rest s := by
  obtain hh | hh := hh <;> simp only [fetch, hu, hh]

/-- An invocation that is no operation (30_encoding R83). -/
theorem fetchInvocation_undecodable {r : HostRegs} {e : DecodeError} (hd : decodeHost r = .error e)
    (rest : List HostEvent) (s : State) : fetchInvocation r rest s = .refuses (.undecodable e) := by
  rw [fetchInvocation, hd]

/-- A request of the engine that is no primitive (30_encoding R77). -/
theorem fetch_undecodable_request {s : State} {u : UopRegs} {e : DecodeError} (hu : s.uop = some u)
    (hi : intrusion s = none) (hd : decodeUop u = .error e) : fetch s = .refuses (.undecodable e) := by
  simp only [fetch, hu, hi, fetchPrimitive, hd]

/-- What the host may not do during an invocation is refused before the engine's request is decoded. -/
theorem fetch_intrusion {s : State} {u : UopRegs} {r : Refusal} (hu : s.uop = some u) (hi : intrusion s = some r) :
    fetch s = .refuses r := by
  simp only [fetch, hu, hi]

/-! ## What the host does during an invocation -/

theorem samePort_eq_true_iff {port : Text} {r : HostRegs} :
    samePort port r = true ↔ r.op.toNat ≤ 2 ∧ r.portId = port := by
  simp only [samePort, reachesLine, Bool.and_eq_true, decide_eq_true_eq]

theorem WaitsItsTurn.exists_samePort_eq_false {port : Text} {e : HostEvent} (h : WaitsItsTurn port e) :
    ∃ r, e = .overlap r ∧ samePort port r = false := by
  obtain ⟨r, rfl, hr⟩ := h
  refine ⟨r, rfl, Bool.eq_false_iff.mpr fun hsame => ?_⟩
  obtain ⟨hop, hport⟩ := samePort_eq_true_iff.mp hsame
  obtain hop' | hport' := hr
  · exact absurd hop (Nat.not_le.mpr hop')
  · exact hport' hport

@[simp] theorem intrusionOn_rewrite (port : Text) (rest : List HostEvent) :
    intrusionOn port (.rewrite :: rest) = some .operandsChanged := rfl

/-- The same port, at an operation that reaches the line (20_memory R65). -/
theorem intrusionOn_overlap {port : Text} {r : HostRegs} (hop : r.op.toNat ≤ 2) (hport : r.portId = port)
    (rest : List HostEvent) : intrusionOn port (.overlap r :: rest) = some .overlappingInvocation := by
  rw [intrusionOn, if_pos (samePort_eq_true_iff.mpr ⟨hop, hport⟩)]

/-- What waits its turn hides nothing behind it: what follows it decides. -/
theorem intrusion_behind {s : State} {waiting rest : List HostEvent}
    (hw : ∀ e ∈ waiting, WaitsItsTurn s.port.id e) (hh : s.host = waiting ++ rest) :
    intrusion s = intrusionOn s.port.id rest := by
  rw [intrusion, hh, intrusionOn_append fun e he => (hw e he).exists_samePort_eq_false]

/-- What waits its turn is not in the way, and neither is a caller that waits behind it. -/
theorem intrusion_eq_none_of_waiting {s : State} {r : HostRegs} {waiting rest : List HostEvent}
    (hw : ∀ e ∈ waiting, WaitsItsTurn s.port.id e)
    (hh : s.host = waiting ∨ s.host = waiting ++ .invoke r :: rest) : intrusion s = none := by
  obtain hh | hh := hh
  · exact (intrusion_behind hw (hh.trans (List.append_nil waiting).symm)).trans (intrusionOn_nil _)
  · exact (intrusion_behind hw hh).trans (intrusionOn_invoke ..)

/-- Settles O4: what does not decode is refused by the fetch, and during an invocation the first event that does not
wait its turn decides. -/
theorem stepRefusals : Obligations.StepRefusals := by
  refine ⟨?invocation, ?request, ?overlap, ?rewrite, ?waits⟩
  case invocation =>
    intro s r rest e hu hh hd
    exact step_of_fetch_refuses ((fetch_presented hu hh).trans (fetchInvocation_undecodable hd rest s))
  case request =>
    intro s u e hu hi hd
    exact step_of_fetch_refuses (fetch_undecodable_request hu hi hd)
  case overlap =>
    intro s u r waiting rest hu hw hh hop hport
    have hi := (intrusion_behind hw hh).trans (intrusionOn_overlap hop hport rest)
    exact step_of_fetch_refuses (fetch_intrusion hu hi)
  case rewrite =>
    intro s u waiting rest hu hw hh
    have hi := (intrusion_behind hw hh).trans (intrusionOn_rewrite _ rest)
    exact step_of_fetch_refuses (fetch_intrusion hu hi)
  case waits =>
    intro s u i r waiting rest hu hw hh hd
    exact step_primitive hu (intrusion_eq_none_of_waiting hw hh) hd

end Sys2Proof.Machine
end

section
/-! The family of 70_reset_and_hazards: the block between invocations. -/

namespace Sys2Proof.Machine

/-- Settles O2: a state with no request outstanding and nothing presented is at rest (`step_atRest`), and the state
after reset is one of them. -/
theorem waitsForHost : Obligations.WaitsForHost := by
  have hrequest : State.reset.uop = none := rfl
  have hpresented : State.reset.host = [] := rfl
  exact ⟨step_atRest hrequest hpresented, fun _ => step_atRest⟩

end Sys2Proof.Machine
end
